-- ==== Sys2Proof/Word.lean ====
section
/-! DEFINITION. The words and numbers that every other file names: bytes, 32-bit counts, slot and input numbers. -/

namespace Sys2Proof

/-- One byte of a management frame, a fabric packet or an identity memory (R182). -/
abbrev Byte := BitVec 8

/-- A 32-bit frame count: the cabinet frame count wraps (R3, R104). -/
abbrev FrameCount := BitVec 32

/-- A slot. Slots are numbered 1 to 12 in messages (00_scope.md, Numbering): slot `n` of a message is the
`SlotId` whose value is `n - 1`. -/
abbrev SlotId := Fin 12

/-- An alarm input, numbered 1 to 8 in messages: input `n` is the `InputId` whose value is `n - 1`. -/
abbrev InputId := Fin 8

/-- A group of the group table, numbered 1 to 16 in messages (R73): group `n` is the `GroupId` of value `n - 1`. -/
abbrev GroupId := Fin 16

/-- The number of a slot in a message. -/
def slotNumber (n : SlotId) : Nat := n.val + 1

/-- The number of an alarm input in a message. -/
def inputNumber (i : InputId) : Nat := i.val + 1

end Sys2Proof
end

