-- ==== Sys2Proof/Syntax.lean ====
section
/-! DEFINITION. The commands of the part: one constructor of `Instr` for each row of spec/opcode_table.json, with the
names that their operands use. Meaning is in Machine/, never here. -/

namespace Sys2Proof

/-- The causes of a reset, in the order of R182 (R176). -/
inductive ResetCause where
  | powerOn | resetPin | supplyDip | restart
  deriving DecidableEq, Repr

/-- The two line rates that the baud-rate strap selects (R168). -/
inductive LineRate where
  | baud115200 | baud921600
  deriving DecidableEq, Repr

/-- A timing reference source: the external pulse input or a slot's timing echo (R109). -/
inductive Ref where
  | ext | slot (n : SlotId)
  deriving DecidableEq, Repr

/-- The four traffic classes (R64). -/
inductive TrafficClass where
  | t | c | s | b
  deriving DecidableEq, Repr

/-- One value for each traffic class. -/
structure PerClass (α : Type) where
  t : α
  c : α
  s : α
  b : α
  deriving DecidableEq, Repr

/-- Alarm severities in rising order (00_scope.md, Numbering). -/
inductive Severity where
  | warning | minor | major | critical
  deriving DecidableEq, Repr

/-- The admission policy of a slot (R5). -/
inductive Policy where
  | auto | approval
  deriving DecidableEq, Repr

/-- Which level of an alarm input is its active one (R152). -/
inductive Polarity where
  | activeLow | activeHigh
  deriving DecidableEq, Repr

/-- What an alarm input's activity does (R155). -/
inductive InputAction where
  | report | mainsFail | thermal | cutoff | maintenance
  deriving DecidableEq, Repr

/-- The mode of a relay (R163). -/
inductive RelayMode where
  | follow | latch
  deriving DecidableEq, Repr

/-- The four relays (R163). -/
inductive RelayName where
  | critical | major | minor | summary
  deriving DecidableEq, Repr

/-- The kind of a forwarding entry (R67). -/
inductive EntryKind where
  | unicast | group
  deriving DecidableEq, Repr

/-- Why a management frame in reception is discarded at a byte (R169). -/
inductive DiscardCause where
  | lenTooLarge | framingError | badCrc
  deriving DecidableEq, Repr

/-- A management frame without SYNC, LEN and CRC, which follow from it (R168, R183). -/
structure Frame where
  kind : Byte
  tag : Byte
  payload : List Byte
  deriving DecidableEq, Repr

/-- One block of an identity memory as received (R187, R188): 64 data bits, the most significant bit of byte 0
first, and the check byte. -/
structure IdBlock where
  data : BitVec 64
  check : Byte
  deriving DecidableEq, Repr

/-- The payload of a request as the port and the encodings find it (R171, R182): its fields, or a payload that
does not fit the request kind, or a presence, flag or enumeration byte outside its range. -/
inductive Body (α : Type) where
  | fields (f : α)
  | malformed
  | badByte
  deriving DecidableEq, Repr

/-- SLOT_POLICY_SET (R31): a field that is `none` is absent. -/
structure PolicyFields where
  slot : Nat
  policy : Option Policy
  priority : Option Nat
  txInhibit : Option Bool
  debounce : Option Nat
  inrush : Option Nat
  drain : Option Nat
  deriving DecidableEq, Repr

/-- BUDGET_SET (R61). -/
structure BudgetFields where
  mains : Option Nat
  battery : Option Nat
  thermal : Option Nat
  deriving DecidableEq, Repr

/-- ROUTE_SET (R70). -/
structure RouteFields where
  address : Nat
  kind : EntryKind
  target : Nat
  classes : Option (PerClass Bool)
  deriving DecidableEq, Repr

/-- GROUP_SET (R73). -/
structure GroupFields where
  group : Nat
  members : List Nat
  deriving DecidableEq, Repr

/-- DOMAIN_SET (R76): slot and domain of each assignment; two domains and joined or forbidden of each pair. -/
structure DomainFields where
  assignments : List (Nat × Nat)
  pairs : List (Nat × Nat × Bool)
  deriving DecidableEq, Repr

/-- QUEUE_SET (R101): slot 0 is ALL (R182). -/
structure QueueFields where
  slot : Nat
  credit : PerClass (Option Nat)
  queue : PerClass (Option Nat)
  sQuantum : Option Nat
  bQuantum : Option Nat
  deriving DecidableEq, Repr

/-- TIMING_SET (R123): sources as reference bytes, 0 for EXT (R182). -/
structure TimingFields where
  refs : Option (List Nat)
  revertive : Option Bool
  cableDelay : Option Nat
  refOffset : Option Nat
  holdoverLimit : Option Nat
  samplePeriod : Option Nat
  deriving DecidableEq, Repr

/-- TRIM_SET (R139). -/
structure TrimFields where
  slot : Nat
  trim : Int
  deriving DecidableEq, Repr

/-- PATTERN_STAGE (R143): a window is its start and its end. -/
structure PatternFields where
  number : Nat
  windows : List (Nat × Nat)
  guardTime : Option Nat
  target : Nat
  deriving DecidableEq, Repr

/-- ALARM_ACK (R162, R184). -/
structure AckFields where
  code : Nat
  sourceKind : Nat
  sourceNumber : Nat
  subcode : Nat
  raiseCount : Nat
  deriving DecidableEq, Repr

/-- INPUT_SET (R156). -/
structure InputFields where
  input : Nat
  polarity : Option Polarity
  debounce : Option Nat
  action : Option InputAction
  severity : Option Severity
  deriving DecidableEq, Repr

/-- RELAY_SET (R164): a list of relay and mode. -/
structure RelayFields where
  modes : List (RelayName × RelayMode)
  deriving DecidableEq, Repr

/-- The commands. Each constructor is one row of spec/opcode_table.json; LAWS.json maps it to its mnemonic. -/
inductive Instr where
  | fullReset (cause : ResetCause) (strap : LineRate)
  | presentRawChange (n : SlotId)
  | presentFilteredChange (n : SlotId)
  | latchRawChange (n : SlotId)
  | latchFilteredChange (n : SlotId)
  | pwrGoodAssert (n : SlotId)
  | pwrGoodHoldComplete (n : SlotId)
  | pwrGoodDeassert (n : SlotId)
  | inrushWindowExpiry (n : SlotId)
  | laneTrainingLimitExpiry (n : SlotId)
  | laneUp (n : SlotId)
  | drainLimitExpiry (n : SlotId)
  | laneQuietMarker (n : SlotId)
  | powerOffWaitExpiry (n : SlotId)
  | identityBlockCompletion (n : SlotId) (answer : Option IdBlock)
  | packetReceptionStart (n : SlotId) (block : List Byte)
  | packetOverlength (n : SlotId)
  | packetTrailer (n : SlotId) (rest : List Byte) (trailer : BitVec 32)
  | transmissionEnd (n : SlotId)
  | creditMessageSend (n : SlotId)
  | frameBoundary
  | edgeTaken (src : Ref)
  | referenceSilenceExpiry (src : Ref)
  | holdoverSecond
  | probeStart (n : SlotId)
  | probePulseEnd (n : SlotId)
  | probeWindowExpiry (n : SlotId)
  | framePulseStart (n : SlotId)
  | framePulseEnd (n : SlotId)
  | windowApproach (n : SlotId)
  | txgRise (n : SlotId)
  | windowEnd (n : SlotId)
  | guardHoldExpiry (n : SlotId)
  | alarmInputRawChange (i : InputId)
  | alarmInputFilteredChange (i : InputId)
  | mgmtFrameArrival (f : Frame)
  | mgmtFrameDiscard (cause : DiscardCause)
  | mgmtInterByteTimeout
  | mgmtFrameTransmitEnd
  | restartTakeEffect
  | unknownKindRequest (kind tag : Byte)
  | partInfo (tag : Byte) (body : Body Unit)
  | restart (tag : Byte) (body : Body Unit)
  | slotPolicySet (tag : Byte) (body : Body PolicyFields)
  | slotAdmit (tag : Byte) (body : Body Nat)
  | slotRelease (tag : Byte) (body : Body Nat)
  | slotPowerCycle (tag : Byte) (body : Body Nat)
  | slotClearFault (tag : Byte) (body : Body Nat)
  | slotRead (tag : Byte) (body : Body Nat)
  | identityReadStart (tag : Byte) (body : Body Nat)
  | identityReadFetch (tag : Byte) (body : Body Nat)
  | budgetSet (tag : Byte) (body : Body BudgetFields)
  | budgetRead (tag : Byte) (body : Body Unit)
  | cutoff (tag : Byte) (body : Body Unit)
  | cutoffRelease (tag : Byte) (body : Body Unit)
  | routeSet (tag : Byte) (body : Body RouteFields)
  | routeClear (tag : Byte) (body : Body Nat)
  | routeReadEntry (tag : Byte) (body : Body Nat)
  | routeReadTable (tag : Byte) (body : Body Nat)
  | routeReadGroups (tag : Byte) (body : Body Unit)
  | routeReadDomains (tag : Byte) (body : Body Unit)
  | groupSet (tag : Byte) (body : Body GroupFields)
  | domainSet (tag : Byte) (body : Body DomainFields)
  | domainLock (tag : Byte) (body : Body Unit)
  | queueSet (tag : Byte) (body : Body QueueFields)
  | countersReadCounters (tag : Byte) (body : Body Unit)
  | countersReadBuffer (tag : Byte) (body : Body Nat)
  | timingSet (tag : Byte) (body : Body TimingFields)
  | timingRead (tag : Byte) (body : Body Unit)
  | delayMeasureStart (tag : Byte) (body : Body Nat)
  | delayMeasureRead (tag : Byte) (body : Body Nat)
  | trimSet (tag : Byte) (body : Body TrimFields)
  | patternStage (tag : Byte) (body : Body PatternFields)
  | patternReadPatterns (tag : Byte) (body : Body Unit)
  | patternReadSlot (tag : Byte) (body : Body Nat)
  | alarmReadTable (tag : Byte) (body : Body Nat)
  | alarmReadInputs (tag : Byte) (body : Body Unit)
  | alarmReadRelays (tag : Byte) (body : Body Unit)
  | alarmAck (tag : Byte) (body : Body AckFields)
  | inputSet (tag : Byte) (body : Body InputFields)
  | relaySet (tag : Byte) (body : Body RelayFields)
  | timebaseAdvance (ext : Bool) (te : BitVec 12)
  | mgmtByteReceived (b : Byte)
  deriving DecidableEq, Repr

end Sys2Proof
end

