-- ==== Sys2Proof/WellFormed.lean ====
section
/-! DEFINITION. Which commands a sender can form: every request field fits the width that R182 gives it, lists fit one frame,
a packet is made of whole blocks. It does not say that a request is accepted: BAD_FIELD, clamping and refusals are meaning. -/

namespace Sys2Proof

/-- A number that one byte holds (R182). -/
def fits8 (n : Nat) : Bool := n < 256
/-- A number that two bytes hold (R182). -/
def fits16 (n : Nat) : Bool := n < 65536
/-- A number that four bytes hold (R182). -/
def fits32 (n : Nat) : Bool := n < 4294967296
/-- A signed number that two bytes hold (R182). -/
def fitsS16 (n : Int) : Bool := -32768 ≤ n && n ≤ 32767

/-- An optional field is well formed when it is absent or fits. -/
def optAll {α : Type} (p : α → Bool) : Option α → Bool
  | none => true
  | some a => p a

/-- The same test of the value of each class. -/
def PerClass.all {α : Type} (p : α → Bool) (x : PerClass α) : Bool := p x.t && p x.c && p x.s && p x.b

/-- A request's body is well formed when it is a defective payload (any payload can be sent) or its fields fit. -/
def Body.wf {α : Type} (p : α → Bool) : Body α → Bool
  | .fields f => p f
  | .malformed => true
  | .badByte => true

def PolicyFields.wf (f : PolicyFields) : Bool :=
  fits8 f.slot && optAll fits8 f.priority && optAll fits8 f.debounce && optAll fits8 f.inrush && optAll fits16 f.drain

def BudgetFields.wf (f : BudgetFields) : Bool :=
  optAll fits16 f.mains && optAll fits16 f.battery && optAll fits16 f.thermal

def RouteFields.wf (f : RouteFields) : Bool := fits8 f.address && fits8 f.target

def GroupFields.wf (f : GroupFields) : Bool :=
  fits8 f.group && f.members.all fits8 && f.members.length ≤ 248

def DomainFields.wf (f : DomainFields) : Bool :=
  f.assignments.all (fun a => fits8 a.1 && fits8 a.2) && f.pairs.all (fun p => fits8 p.1 && fits8 p.2.1)
    && 2 + 2 * f.assignments.length + 3 * f.pairs.length ≤ 250

def QueueFields.wf (f : QueueFields) : Bool :=
  fits8 f.slot && f.credit.all (optAll fits8) && f.queue.all (optAll fits16) && optAll fits8 f.sQuantum
    && optAll fits8 f.bQuantum

def TimingFields.wf (f : TimingFields) : Bool :=
  optAll (fun l => l.all fits8 && l.length ≤ 200) f.refs && optAll fits16 f.cableDelay && optAll fits32 f.refOffset
    && optAll fits16 f.holdoverLimit && optAll fits8 f.samplePeriod

def TrimFields.wf (f : TrimFields) : Bool := fits8 f.slot && fitsS16 f.trim

def PatternFields.wf (f : PatternFields) : Bool :=
  fits8 f.number && f.windows.all (fun w => fits32 w.1 && fits32 w.2) && f.windows.length ≤ 30 && optAll fits16 f.guardTime
    && fits32 f.target

def AckFields.wf (f : AckFields) : Bool :=
  fits8 f.code && fits8 f.sourceKind && fits8 f.sourceNumber && fits8 f.subcode && fits8 f.raiseCount

def InputFields.wf (f : InputFields) : Bool := fits8 f.input && optAll fits8 f.debounce

def RelayFields.wf (f : RelayFields) : Bool := f.modes.length ≤ 124

/-- The well-formed commands. -/
def Instr.wf : Instr → Bool
  | .fullReset cause _ => cause != .restart
  | .presentRawChange _ => true
  | .presentFilteredChange _ => true
  | .latchRawChange _ => true
  | .latchFilteredChange _ => true
  | .pwrGoodAssert _ => true
  | .pwrGoodHoldComplete _ => true
  | .pwrGoodDeassert _ => true
  | .inrushWindowExpiry _ => true
  | .laneTrainingLimitExpiry _ => true
  | .laneUp _ => true
  | .drainLimitExpiry _ => true
  | .laneQuietMarker _ => true
  | .powerOffWaitExpiry _ => true
  | .identityBlockCompletion _ _ => true
  | .packetReceptionStart _ block => block.length == 64
  | .packetOverlength _ => true
  | .packetTrailer _ rest _ => rest.length % 64 == 0 && rest.length ≤ 23 * 64
  | .transmissionEnd _ => true
  | .creditMessageSend _ => true
  | .frameBoundary => true
  | .edgeTaken _ => true
  | .referenceSilenceExpiry _ => true
  | .holdoverSecond => true
  | .probeStart _ => true
  | .probePulseEnd _ => true
  | .probeWindowExpiry _ => true
  | .framePulseStart _ => true
  | .framePulseEnd _ => true
  | .windowApproach _ => true
  | .txgRise _ => true
  | .windowEnd _ => true
  | .guardHoldExpiry _ => true
  | .alarmInputRawChange _ => true
  | .alarmInputFilteredChange _ => true
  | .mgmtFrameArrival f => f.payload.length ≤ 250
  | .mgmtFrameDiscard _ => true
  | .mgmtInterByteTimeout => true
  | .mgmtFrameTransmitEnd => true
  | .restartTakeEffect => true
  | .unknownKindRequest kind _ => kind == 0 || 31 < kind.toNat
  | .partInfo _ _ => true
  | .restart _ _ => true
  | .slotPolicySet _ body => body.wf PolicyFields.wf
  | .slotAdmit _ body => body.wf fits8
  | .slotRelease _ body => body.wf fits8
  | .slotPowerCycle _ body => body.wf fits8
  | .slotClearFault _ body => body.wf fits8
  | .slotRead _ body => body.wf fits8
  | .identityReadStart _ body => body.wf fits8
  | .identityReadFetch _ body => body.wf fits8
  | .budgetSet _ body => body.wf BudgetFields.wf
  | .budgetRead _ _ => true
  | .cutoff _ _ => true
  | .cutoffRelease _ _ => true
  | .routeSet _ body => body.wf RouteFields.wf
  | .routeClear _ body => body.wf fits8
  | .routeReadEntry _ body => body.wf fits8
  | .routeReadTable _ body => body.wf fits8
  | .routeReadGroups _ _ => true
  | .routeReadDomains _ _ => true
  | .groupSet _ body => body.wf GroupFields.wf
  | .domainSet _ body => body.wf DomainFields.wf
  | .domainLock _ _ => true
  | .queueSet _ body => body.wf QueueFields.wf
  | .countersReadCounters _ _ => true
  | .countersReadBuffer _ body => body.wf fits8
  | .timingSet _ body => body.wf TimingFields.wf
  | .timingRead _ _ => true
  | .delayMeasureStart _ body => body.wf fits8
  | .delayMeasureRead _ body => body.wf fits8
  | .trimSet _ body => body.wf TrimFields.wf
  | .patternStage _ body => body.wf PatternFields.wf
  | .patternReadPatterns _ _ => true
  | .patternReadSlot _ body => body.wf fits8
  | .alarmReadTable _ body => body.wf fits8
  | .alarmReadInputs _ _ => true
  | .alarmReadRelays _ _ => true
  | .alarmAck _ body => body.wf AckFields.wf
  | .inputSet _ body => body.wf InputFields.wf
  | .relaySet _ body => body.wf RelayFields.wf
  | .timebaseAdvance _ _ => true
  | .mgmtByteReceived _ => true

/-- A command that a sender can form. -/
abbrev Instr.WellFormed (i : Instr) : Prop := i.wf = true

end Sys2Proof
end

