-- ==== Sys2Proof/Decode.lean ====
section
/-! DEFINITION. The wire form of requests (R168, R171, R182 to R184): the numbers of the enumerations, the bytes of a
management frame, the reader of a request's payload and the encoder of a request. No row of spec/opcode_table.json has bits,
so `decodeTableWord` answers none for every word. -/

namespace Sys2Proof

/-- No row of the opcode table gives bits: no word spells a command. -/
def decodeTableWord (_nbits _w : Nat) : Option Instr := none

/-! ### Numbers and bytes (R182) -/

/-- One byte of a number. -/
def byteOf (n : Nat) : Byte := BitVec.ofNat 8 n
/-- A number in one byte. -/
def be8 (n : Nat) : List Byte := [byteOf n]
/-- A number in two bytes, high byte first. -/
def be16 (n : Nat) : List Byte := [byteOf (n / 256), byteOf n]
/-- A number in four bytes, high byte first. -/
def be32 (n : Nat) : List Byte := [byteOf (n / 16777216), byteOf (n / 65536), byteOf (n / 256), byteOf n]
/-- A signed number in two bytes, two's complement. -/
def beS16 (n : Int) : List Byte := be16 (n % 65536).toNat
/-- A signed number in four bytes, two's complement. -/
def beS32 (n : Int) : List Byte := be32 (n % 4294967296).toNat
/-- A flag. -/
def beFlag (b : Bool) : List Byte := be8 (if b then 1 else 0)
/-- An optional field: a presence byte and the field's bytes, which are 0 when it is absent. -/
def beOpt {α : Type} (f : α → List Byte) (size : Nat) : Option α → List Byte
  | none => be8 0 ++ List.replicate size 0
  | some a => be8 1 ++ f a
/-- A list: one count byte and the items. -/
def beList {α : Type} (f : α → List Byte) (l : List α) : List Byte := be8 l.length ++ l.flatMap f
/-- The value of a signed two-byte number. -/
def s16Of (n : Nat) : Int := if n < 32768 then (n : Int) else (n : Int) - 65536

/-! ### The numbers of the enumerations that requests carry (R182) -/

def Severity.code : Severity → Nat
  | .warning => 0 | .minor => 1 | .major => 2 | .critical => 3
def severityOf : Nat → Option Severity
  | 0 => some .warning | 1 => some .minor | 2 => some .major | 3 => some .critical | _ => none
def Policy.code : Policy → Nat
  | .auto => 0 | .approval => 1
def policyOf : Nat → Option Policy
  | 0 => some .auto | 1 => some .approval | _ => none
def flagOf : Nat → Option Bool
  | 0 => some false | 1 => some true | _ => none
def Polarity.code : Polarity → Nat
  | .activeLow => 0 | .activeHigh => 1
def polarityOf : Nat → Option Polarity
  | 0 => some .activeLow | 1 => some .activeHigh | _ => none
def InputAction.code : InputAction → Nat
  | .report => 0 | .mainsFail => 1 | .thermal => 2 | .cutoff => 3 | .maintenance => 4
def actionOf : Nat → Option InputAction
  | 0 => some .report | 1 => some .mainsFail | 2 => some .thermal | 3 => some .cutoff | 4 => some .maintenance
  | _ => none
def RelayMode.code : RelayMode → Nat
  | .follow => 0 | .latch => 1
def relayModeOf : Nat → Option RelayMode
  | 0 => some .follow | 1 => some .latch | _ => none
def RelayName.code : RelayName → Nat
  | .critical => 0 | .major => 1 | .minor => 2 | .summary => 3
def relayNameOf : Nat → Option RelayName
  | 0 => some .critical | 1 => some .major | 2 => some .minor | 3 => some .summary | _ => none
def EntryKind.code : EntryKind → Nat
  | .unicast => 0 | .group => 1
def entryKindOf : Nat → Option EntryKind
  | 0 => some .unicast | 1 => some .group | _ => none
/-- A set of classes in one byte, T at bit 0. -/
def classSetCode (x : PerClass Bool) : Nat :=
  (if x.t then 1 else 0) + (if x.c then 2 else 0) + (if x.s then 4 else 0) + (if x.b then 8 else 0)
/-- The set of classes of a byte; a byte with a bit above bit 3 names no set. -/
def classSetOf (n : Nat) : Option (PerClass Bool) :=
  if n < 16 then some ⟨n % 2 == 1, n / 2 % 2 == 1, n / 4 % 2 == 1, n / 8 % 2 == 1⟩ else none

/-! ### Reading a payload: structure first (R171), then the bytes that have a range (R182) -/

def rd8 : List Byte → Option (Nat × List Byte)
  | b :: r => some (b.toNat, r)
  | [] => none
def rd16 : List Byte → Option (Nat × List Byte)
  | h :: l :: r => some (h.toNat * 256 + l.toNat, r)
  | _ => none
def rd32 : List Byte → Option (Nat × List Byte)
  | a :: b :: c :: d :: r => some (((a.toNat * 256 + b.toNat) * 256 + c.toNat) * 256 + d.toNat, r)
  | _ => none
/-- A presence byte and the field behind it. -/
def rdOpt (rd : List Byte → Option (Nat × List Byte)) (l : List Byte) : Option ((Nat × Nat) × List Byte) :=
  (rd8 l).bind fun (p, r) => (rd r).map fun (v, r) => ((p, v), r)
/-- `k` items. -/
def rdMany {α : Type} (rd : List Byte → Option (α × List Byte)) : Nat → List Byte → Option (List α × List Byte)
  | 0, l => some ([], l)
  | k + 1, l => (rd l).bind fun (a, r) => (rdMany rd k r).map fun (as, r) => (a :: as, r)
/-- A count byte and its items. -/
def rdList {α : Type} (rd : List Byte → Option (α × List Byte)) (l : List Byte) : Option (List α × List Byte) :=
  (rd8 l).bind fun (k, r) => rdMany rd k r
/-- Two readers, one after the other. -/
def rdPair {α β : Type} (ra : List Byte → Option (α × List Byte)) (rb : List Byte → Option (β × List Byte))
    (l : List Byte) : Option ((α × β) × List Byte) :=
  (ra l).bind fun (a, r) => (rb r).map fun (b, r) => ((a, b), r)
/-- An optional field of its presence byte and value: a presence byte outside 0 and 1 is out of range (R182), and the
value of an absent field is not looked at (DESIGN CHOICE, log 12: R182 says that its bytes are 0, and gives no outcome
where they are not). -/
def presence {α : Type} (f : Nat → Option α) (p : Nat × Nat) : Option (Option α) :=
  match p.1 with
  | 0 => some none
  | 1 => (f p.2).map some
  | _ => none
/-- The body of a payload: the structure decides MALFORMED, then the ranges decide BAD_FIELD (R171, R182). -/
def readBody {ρ α : Type} (layout : List Byte → Option (ρ × List Byte)) (check : ρ → Option α) (l : List Byte) :
    Body α :=
  match layout l with
  | some (r, []) =>
    match check r with
    | some f => .fields f
    | none => .badByte
  | _ => .malformed

def readEmpty : List Byte → Body Unit
  | [] => .fields ()
  | _ => .malformed
def readSlot (l : List Byte) : Body Nat := readBody rd8 some l
def readPolicy (l : List Byte) : Body PolicyFields :=
  readBody (rdPair rd8 (rdPair (rdOpt rd8) (rdPair (rdOpt rd8) (rdPair (rdOpt rd8) (rdPair (rdOpt rd8)
    (rdPair (rdOpt rd8) (rdOpt rd16)))))))
    (fun (slot, pol, prio, tx, deb, inr, dra) => do
      let policy ← presence policyOf pol
      let priority ← presence some prio
      let txInhibit ← presence flagOf tx
      let debounce ← presence some deb
      let inrush ← presence some inr
      let drain ← presence some dra
      some ⟨slot, policy, priority, txInhibit, debounce, inrush, drain⟩) l
def readBudget (l : List Byte) : Body BudgetFields :=
  readBody (rdPair (rdOpt rd16) (rdPair (rdOpt rd16) (rdOpt rd16)))
    (fun (m, b, t) => do
      let mains ← presence some m
      let battery ← presence some b
      let thermal ← presence some t
      some ⟨mains, battery, thermal⟩) l
def readRoute (l : List Byte) : Body RouteFields :=
  readBody (rdPair rd8 (rdPair rd8 (rdPair rd8 (rdOpt rd8))))
    (fun (address, k, target, cl) => do
      let kind ← entryKindOf k
      let classes ← presence classSetOf cl
      some ⟨address, kind, target, classes⟩) l
def readGroup (l : List Byte) : Body GroupFields :=
  readBody (rdPair rd8 (rdList rd8)) (fun (g, m) => some ⟨g, m⟩) l
/-- The pair settings of DOMAIN_SET: FORBIDDEN 0 or JOINED 1. -/
def pairSettings : List (Nat × Nat × Nat) → Option (List (Nat × Nat × Bool))
  | [] => some []
  | (a, b, j) :: r => (flagOf j).bind fun j => (pairSettings r).map fun r => (a, b, j) :: r
def readDomain (l : List Byte) : Body DomainFields :=
  readBody (rdPair (rdList (rdPair rd8 rd8)) (rdList (rdPair rd8 (rdPair rd8 rd8))))
    (fun (as, ps) => (pairSettings ps).map fun ps => ⟨as, ps⟩) l
/-- Four optional fields, one for each class in the order T, C, S, B. -/
def rdFour (rd : List Byte → Option (Nat × List Byte)) (l : List Byte) :
    Option ((PerClass (Nat × Nat)) × List Byte) :=
  (rdPair (rdOpt rd) (rdPair (rdOpt rd) (rdPair (rdOpt rd) (rdOpt rd))) l).map
    fun ((t, c, s, b), r) => (⟨t, c, s, b⟩, r)
def presenceFour (x : PerClass (Nat × Nat)) : Option (PerClass (Option Nat)) := do
  let t ← presence some x.t
  let c ← presence some x.c
  let s ← presence some x.s
  let b ← presence some x.b
  some ⟨t, c, s, b⟩
def readQueue (l : List Byte) : Body QueueFields :=
  readBody (rdPair rd8 (rdPair (rdFour rd8) (rdPair (rdFour rd16) (rdPair (rdOpt rd8) (rdOpt rd8)))))
    (fun (slot, cr, qu, sq, bq) => do
      let credit ← presenceFour cr
      let queue ← presenceFour qu
      let sQuantum ← presence some sq
      let bQuantum ← presence some bq
      some ⟨slot, credit, queue, sQuantum, bQuantum⟩) l
/-- TIMING_SET: the reference list, a list behind a presence byte, and then the five optional settings in the order of
R104 (R123, R182). DESIGN CHOICE, log 12: the count byte of the list says how many item bytes follow whatever the
presence byte says, so where the list is absent and its count is not 0 that many bytes are still read as structure:
too few of them make the payload MALFORMED (R171), and their values are not looked at. R182 says that the bytes of an
absent field are 0, and gives no outcome where they are not. -/
def readTiming (l : List Byte) : Body TimingFields :=
  readBody (rdPair (rdPair rd8 (rdList rd8)) (rdPair (rdOpt rd8) (rdPair (rdOpt rd16) (rdPair (rdOpt rd32)
    (rdPair (rdOpt rd16) (rdOpt rd8))))))
    (fun ((p, rs), rev, cab, off, lim, per) => do
      let refs ← (match p with | 0 => some none | 1 => some (some rs) | _ => none)
      let revertive ← presence flagOf rev
      let cableDelay ← presence some cab
      let refOffset ← presence some off
      let holdoverLimit ← presence some lim
      let samplePeriod ← presence some per
      some ⟨refs, revertive, cableDelay, refOffset, holdoverLimit, samplePeriod⟩) l
def readTrim (l : List Byte) : Body TrimFields :=
  readBody (rdPair rd8 rd16) (fun (slot, t) => some ⟨slot, s16Of t⟩) l
def readPattern (l : List Byte) : Body PatternFields :=
  readBody (rdPair rd8 (rdPair (rdList (rdPair rd32 rd32)) (rdPair (rdOpt rd16) rd32)))
    (fun (number, windows, g, target) => do
      let guardTime ← presence some g
      some ⟨number, windows, guardTime, target⟩) l
def readAck (l : List Byte) : Body AckFields :=
  readBody (rdPair rd8 (rdPair rd8 (rdPair rd8 (rdPair rd8 rd8))))
    (fun (c, k, n, sub, r) => some ⟨c, k, n, sub, r⟩) l
def readInput (l : List Byte) : Body InputFields :=
  readBody (rdPair rd8 (rdPair (rdOpt rd8) (rdPair (rdOpt rd8) (rdPair (rdOpt rd8) (rdOpt rd8)))))
    (fun (input, pol, deb, act, sev) => do
      let polarity ← presence polarityOf pol
      let debounce ← presence some deb
      let action ← presence actionOf act
      let severity ← presence severityOf sev
      some ⟨input, polarity, debounce, action, severity⟩) l
/-- The modes of RELAY_SET. -/
def relayModes : List (Nat × Nat) → Option (List (RelayName × RelayMode))
  | [] => some []
  | (n, m) :: r => (relayNameOf n).bind fun n => (relayModeOf m).bind fun m => (relayModes r).map fun r => (n, m) :: r
def readRelay (l : List Byte) : Body RelayFields :=
  readBody (rdList (rdPair rd8 rd8)) (fun ms => (relayModes ms).map fun ms => ⟨ms⟩) l

/-- A payload whose first byte is a mode (R45, R81, R100, R151, R166): no byte is MALFORMED, a mode that is none of
the listed ones is BAD_FIELD whatever follows it, and a listed mode reads the rest. The first listed command carries
the defects of the kind's payload as a whole. -/
def byMode (bad : Body Nat → Instr) (modes : List (List Byte → Instr)) : List Byte → Instr
  | [] => bad .malformed
  | m :: r =>
    match modes[m.toNat]? with
    | some f => f r
    | none => bad .badByte

/-- A payload of a slot and then a mode (R44, R137). -/
def slotThenMode (first second : Body Nat → Instr) : List Byte → Instr
  | [slot, m] =>
    match m.toNat with
    | 0 => first (.fields slot.toNat)
    | 1 => second (.fields slot.toNat)
    | _ => first .badByte
  | _ => first .malformed

/-- The command that a whole frame asks for when it is executed (R171, R183): its KIND selects the row, and a KIND
that is none of the 31 request kinds is the row UNKNOWN_KIND_REQUEST. -/
def parseRequest (f : Frame) : Instr :=
  match f.kind.toNat with
  | 1 => .partInfo f.tag (readEmpty f.payload)
  | 2 => .restart f.tag (readEmpty f.payload)
  | 3 => .slotPolicySet f.tag (readPolicy f.payload)
  | 4 => .slotAdmit f.tag (readSlot f.payload)
  | 5 => .slotRelease f.tag (readSlot f.payload)
  | 6 => .slotPowerCycle f.tag (readSlot f.payload)
  | 7 => .slotClearFault f.tag (readSlot f.payload)
  | 8 => .slotRead f.tag (readSlot f.payload)
  | 9 => slotThenMode (.identityReadStart f.tag) (.identityReadFetch f.tag) f.payload
  | 10 => .budgetSet f.tag (readBudget f.payload)
  | 11 => .budgetRead f.tag (readEmpty f.payload)
  | 12 => .cutoff f.tag (readEmpty f.payload)
  | 13 => .cutoffRelease f.tag (readEmpty f.payload)
  | 14 => .routeSet f.tag (readRoute f.payload)
  | 15 => .routeClear f.tag (readSlot f.payload)
  | 16 => byMode (.routeReadEntry f.tag)
      [fun r => .routeReadEntry f.tag (readSlot r), fun r => .routeReadTable f.tag (readSlot r),
       fun r => .routeReadGroups f.tag (readEmpty r), fun r => .routeReadDomains f.tag (readEmpty r)] f.payload
  | 17 => .groupSet f.tag (readGroup f.payload)
  | 18 => .domainSet f.tag (readDomain f.payload)
  | 19 => .domainLock f.tag (readEmpty f.payload)
  | 20 => .queueSet f.tag (readQueue f.payload)
  | 21 => byMode (.countersReadBuffer f.tag)
      [fun r => .countersReadCounters f.tag (readEmpty r), fun r => .countersReadBuffer f.tag (readSlot r)] f.payload
  | 22 => .timingSet f.tag (readTiming f.payload)
  | 23 => .timingRead f.tag (readEmpty f.payload)
  | 24 => slotThenMode (.delayMeasureStart f.tag) (.delayMeasureRead f.tag) f.payload
  | 25 => .trimSet f.tag (readTrim f.payload)
  | 26 => .patternStage f.tag (readPattern f.payload)
  | 27 => byMode (.patternReadSlot f.tag)
      [fun r => .patternReadPatterns f.tag (readEmpty r), fun r => .patternReadSlot f.tag (readSlot r)] f.payload
  | 28 => byMode (.alarmReadTable f.tag)
      [fun r => .alarmReadTable f.tag (readSlot r), fun r => .alarmReadInputs f.tag (readEmpty r),
       fun r => .alarmReadRelays f.tag (readEmpty r)] f.payload
  | 29 => .alarmAck f.tag (readAck f.payload)
  | 30 => .inputSet f.tag (readInput f.payload)
  | 31 => .relaySet f.tag (readRelay f.payload)
  | _ => .unknownKindRequest f.kind f.tag

/-! ### Writing a request -/

def PolicyFields.bytes (f : PolicyFields) : List Byte :=
  be8 f.slot ++ beOpt (fun p => be8 p.code) 1 f.policy ++ beOpt be8 1 f.priority ++ beOpt beFlag 1 f.txInhibit
    ++ beOpt be8 1 f.debounce ++ beOpt be8 1 f.inrush ++ beOpt be16 2 f.drain
def BudgetFields.bytes (f : BudgetFields) : List Byte :=
  beOpt be16 2 f.mains ++ beOpt be16 2 f.battery ++ beOpt be16 2 f.thermal
def RouteFields.bytes (f : RouteFields) : List Byte :=
  be8 f.address ++ be8 f.kind.code ++ be8 f.target ++ beOpt (fun c => be8 (classSetCode c)) 1 f.classes
def GroupFields.bytes (f : GroupFields) : List Byte := be8 f.group ++ beList be8 f.members
def DomainFields.bytes (f : DomainFields) : List Byte :=
  beList (fun a => be8 a.1 ++ be8 a.2) f.assignments
    ++ beList (fun p => be8 p.1 ++ be8 p.2.1 ++ beFlag p.2.2) f.pairs
def fourBytes (f : Nat → List Byte) (size : Nat) (x : PerClass (Option Nat)) : List Byte :=
  beOpt f size x.t ++ beOpt f size x.c ++ beOpt f size x.s ++ beOpt f size x.b
def QueueFields.bytes (f : QueueFields) : List Byte :=
  be8 f.slot ++ fourBytes be8 1 f.credit ++ fourBytes be16 2 f.queue ++ beOpt be8 1 f.sQuantum ++ beOpt be8 1 f.bQuantum
def TimingFields.bytes (f : TimingFields) : List Byte :=
  beOpt (beList be8) 1 f.refs ++ beOpt beFlag 1 f.revertive ++ beOpt be16 2 f.cableDelay ++ beOpt be32 4 f.refOffset
    ++ beOpt be16 2 f.holdoverLimit ++ beOpt be8 1 f.samplePeriod
def TrimFields.bytes (f : TrimFields) : List Byte := be8 f.slot ++ beS16 f.trim
def PatternFields.bytes (f : PatternFields) : List Byte :=
  be8 f.number ++ beList (fun w => be32 w.1 ++ be32 w.2) f.windows ++ beOpt be16 2 f.guardTime ++ be32 f.target
def AckFields.bytes (f : AckFields) : List Byte :=
  be8 f.code ++ be8 f.sourceKind ++ be8 f.sourceNumber ++ be8 f.subcode ++ be8 f.raiseCount
def InputFields.bytes (f : InputFields) : List Byte :=
  be8 f.input ++ beOpt (fun p => be8 p.code) 1 f.polarity ++ beOpt be8 1 f.debounce
    ++ beOpt (fun a => be8 a.code) 1 f.action ++ beOpt (fun a => be8 a.code) 1 f.severity
def RelayFields.bytes (f : RelayFields) : List Byte := beList (fun m => be8 m.1.code ++ be8 m.2.code) f.modes

/-- The frame of a request of kind `kind`, when its body holds fields. -/
def frameOf {α : Type} (kind : Nat) (tag : Byte) (bytes : α → List Byte) : Body α → Option Frame
  | .fields f => some ⟨byteOf kind, tag, bytes f⟩
  | .malformed => none
  | .badByte => none

/-- The frame of a request whose fields are given; none for a command that is no such request. -/
def encodeRequest : Instr → Option Frame
  | .partInfo tag b => frameOf 1 tag (fun _ => []) b
  | .restart tag b => frameOf 2 tag (fun _ => []) b
  | .slotPolicySet tag b => frameOf 3 tag PolicyFields.bytes b
  | .slotAdmit tag b => frameOf 4 tag be8 b
  | .slotRelease tag b => frameOf 5 tag be8 b
  | .slotPowerCycle tag b => frameOf 6 tag be8 b
  | .slotClearFault tag b => frameOf 7 tag be8 b
  | .slotRead tag b => frameOf 8 tag be8 b
  | .identityReadStart tag b => frameOf 9 tag (fun n => be8 n ++ be8 0) b
  | .identityReadFetch tag b => frameOf 9 tag (fun n => be8 n ++ be8 1) b
  | .budgetSet tag b => frameOf 10 tag BudgetFields.bytes b
  | .budgetRead tag b => frameOf 11 tag (fun _ => []) b
  | .cutoff tag b => frameOf 12 tag (fun _ => []) b
  | .cutoffRelease tag b => frameOf 13 tag (fun _ => []) b
  | .routeSet tag b => frameOf 14 tag RouteFields.bytes b
  | .routeClear tag b => frameOf 15 tag be8 b
  | .routeReadEntry tag b => frameOf 16 tag (fun n => be8 0 ++ be8 n) b
  | .routeReadTable tag b => frameOf 16 tag (fun n => be8 1 ++ be8 n) b
  | .routeReadGroups tag b => frameOf 16 tag (fun _ => be8 2) b
  | .routeReadDomains tag b => frameOf 16 tag (fun _ => be8 3) b
  | .groupSet tag b => frameOf 17 tag GroupFields.bytes b
  | .domainSet tag b => frameOf 18 tag DomainFields.bytes b
  | .domainLock tag b => frameOf 19 tag (fun _ => []) b
  | .queueSet tag b => frameOf 20 tag QueueFields.bytes b
  | .countersReadCounters tag b => frameOf 21 tag (fun _ => be8 0) b
  | .countersReadBuffer tag b => frameOf 21 tag (fun n => be8 1 ++ be8 n) b
  | .timingSet tag b => frameOf 22 tag TimingFields.bytes b
  | .timingRead tag b => frameOf 23 tag (fun _ => []) b
  | .delayMeasureStart tag b => frameOf 24 tag (fun n => be8 n ++ be8 0) b
  | .delayMeasureRead tag b => frameOf 24 tag (fun n => be8 n ++ be8 1) b
  | .trimSet tag b => frameOf 25 tag TrimFields.bytes b
  | .patternStage tag b => frameOf 26 tag PatternFields.bytes b
  | .patternReadPatterns tag b => frameOf 27 tag (fun _ => be8 0) b
  | .patternReadSlot tag b => frameOf 27 tag (fun n => be8 1 ++ be8 n) b
  | .alarmReadTable tag b => frameOf 28 tag (fun n => be8 0 ++ be8 n) b
  | .alarmReadInputs tag b => frameOf 28 tag (fun _ => be8 1) b
  | .alarmReadRelays tag b => frameOf 28 tag (fun _ => be8 2) b
  | .alarmAck tag b => frameOf 29 tag AckFields.bytes b
  | .inputSet tag b => frameOf 30 tag InputFields.bytes b
  | .relaySet tag b => frameOf 31 tag RelayFields.bytes b
  | _ => none

/-! ### Check codes and whole frames -/

/-- One bit of the CRC-16 of R183, most significant bit first. -/
def crc16Bit (crc : BitVec 16) (bit : Bool) : BitVec 16 :=
  if crc.msb != bit then (crc <<< 1) ^^^ 0x1021 else crc <<< 1
def crc16Byte (crc : BitVec 16) (b : Byte) : BitVec 16 :=
  [7, 6, 5, 4, 3, 2, 1, 0].foldl (fun c k => crc16Bit c (b.getLsbD k)) crc
/-- The CRC-16 of a management frame (R183). -/
def crc16 (l : List Byte) : BitVec 16 := l.foldl crc16Byte 0xFFFF

/-- One bit of the CRC-32 of R185, most significant bit first. -/
def crc32Bit (crc : BitVec 32) (bit : Bool) : BitVec 32 :=
  if crc.msb != bit then (crc <<< 1) ^^^ 0x04C11DB7 else crc <<< 1
def crc32Byte (crc : BitVec 32) (b : Byte) : BitVec 32 :=
  [7, 6, 5, 4, 3, 2, 1, 0].foldl (fun c k => crc32Bit c (b.getLsbD k)) crc
/-- The CRC-32 of a fabric packet (R185). -/
def crc32 (l : List Byte) : BitVec 32 := ~~~ (l.foldl crc32Byte 0xFFFFFFFF)

/-- The bytes of a frame that its CRC covers: LEN, KIND, TAG and the payload (R168). -/
def Frame.covered (f : Frame) : List Byte := be8 f.payload.length ++ [f.kind, f.tag] ++ f.payload
/-- The bytes of a frame on the line (R168, R183). -/
def Frame.bytes (f : Frame) : List Byte := [0xA5] ++ f.covered ++ be16 (crc16 f.covered).toNat

end Sys2Proof
end

