-- ==== Sys2Proof/Config.lean ====
section
/-! DEFINITION. The fixed numbers of the manual, and the values that the manual leaves open: each of those is an opaque
constant, so that no proof can see it. -/

namespace Sys2Proof.Config

/-- The ticks of a frame (R1). -/
def frameTicks : Nat := 1228800
/-- The ticks of a second (R1). -/
def secondTicks : Nat := 122880000
/-- The ticks of a millisecond (R2). -/
def msTicks : Nat := 122880
/-- 2 to the 32nd, the wrap of the fractional accumulator (R105). -/
def wrap32 : Nat := 4294967296
/-- The greatest value of a counter (R3). -/
def counterMax : Nat := 4294967295
/-- The blocks of the packet buffer (R83). -/
def poolBlocks : Nat := 512
/-- The frame position at which a probe starts (R127). -/
def probePosition : Nat := 614400
/-- The greatest magnitude of the steering word (R104). -/
def steerMax : Int := 429496
/-- The greatest magnitude of the integral (R104). -/
def integralMax : Int := 262144
/-- The places of the forwarding table (R67). -/
def routePlaces : Nat := 96
/-- The places of the alarm table (R158). -/
def alarmPlaces : Nat := 48

/-- The vendor code of Hekcora, which PART_INFO reports (R176): the manual does not give it. -/
opaque vendorCode : BitVec 16
/-- The part code of the JN4412 (R176): the manual does not give it. -/
opaque partCode : BitVec 16
/-- The silicon revision, major number (R176): the manual does not give it. -/
opaque revisionMajor : BitVec 8
/-- The silicon revision, minor number (R176): the manual does not give it. -/
opaque revisionMinor : BitVec 8
/-- The cabinet frame count after a step (R118) from a count so close to its wrap that none of the counts 0 to 99 frames
ahead has the wanted phase: the manual states no result there. -/
opaque stepAcrossWrap : FrameCount → Nat → FrameCount

end Sys2Proof.Config
end

