-- ==== Sys2Proof/Machine/State.lean ====
section
/-! DEFINITION. The state of the part: every item that the manual gives a block, as plain data, the queue of waiting commands,
and the state right after a power-on reset. Items that a rule defines as a function of others are in Flags.lean. -/

namespace Sys2Proof.Machine

/-- No step of the part stops with a fault: a failure of a card is the slot state FAULTED, and a request that cannot be
carried out is refused in its reply (R172). Nothing raises one (safe). -/
inductive Fault where
  deriving DecidableEq, Repr

/-- The reasons for which the model gives a command no meaning. -/
inductive Refusal where
  /-- Raised by `exec` for a command that has no meaning yet; no arm uses it (safe). -/
  | notModelled (mnemonic : String)
  deriving DecidableEq, Repr

/-- What a command answers. -/
abbrev Out (σ : Type) := Host.Outcome σ Fault Refusal

/-! ### Slot Controller (R5, R7, R13 to R17, R27) -/

inductive FaultReason where
  | idUnreadable | idFormat | addressConflict | routeTableFull | inrushTimeout | laneTrainFail | powerLost | cutoff
  | idChanged
  deriving DecidableEq, Repr

inductive AwaitReason where
  | approval | budget
  deriving DecidableEq, Repr

inductive OffPurpose where
  | normal | shed | cycle
  deriving DecidableEq, Repr

/-- The thirteen slot states with the reason each carries (R5, section 1.2): a reason exists in its state only. -/
inductive SlotState where
  | empty | detected | identifying
  | awaiting (r : AwaitReason)
  | powering | training | active
  | draining (p : OffPurpose)
  | poweringOff (p : OffPurpose)
  | poweredDown | shed
  | faulted (r : FaultReason)
  | recovering
  deriving DecidableEq, Repr

inductive CardKind where
  | radio | baseband | transport | power | fan | battery | other
  deriving DecidableEq, Repr

inductive ReadStatus where
  | clean | corrected | uncorrectable
  deriving DecidableEq, Repr

/-- A validated identity record (section 2.1). The format version and the block count follow from the other fields. -/
structure Identity where
  kind : CardKind
  vendor : Nat
  serial : List Byte
  draw : Nat
  needsTiming : Bool
  transmitter : Bool
  internalDelay : Nat
  turnaround : Nat
  addresses : List Nat
  suggestion : Option Nat
  asymmetry : Option Int
  deriving DecidableEq, Repr

/-- An identity record with the read status of the read that produced it (R5, R41). -/
structure StoredIdentity where
  record : Identity
  status : ReadStatus
  lastCorrected : Option Nat
  deriving DecidableEq, Repr

/-- A timer in flight: the oscillator period at which it started and the duration in force then, in ticks (R2, R7). -/
structure Timer where
  start : Nat
  length : Nat
  deriving DecidableEq, Repr

structure SlotRec where
  state : SlotState
  identity : Option StoredIdentity
  policy : Policy
  waived : Bool
  priority : Nat
  priorityByHost : Bool
  txInhibit : Bool
  drawCounted : Nat
  lastChange : FrameCount
  pwrEn : Bool
  pwrGood : Bool
  presentRaw : Bool
  present : Bool
  presentHold : Option Timer
  latchRaw : Bool
  latchClosed : Bool
  latchHold : Option Timer
  goodHold : Option Timer
  inrushWindow : Option Timer
  trainLimit : Option Timer
  drainLimit : Option Timer
  offWait : Option Timer
  /-- RECOVERING: the 5 ms PWR_GOOD hold has completed (R27). -/
  holdDone : Bool
  /-- RECOVERING: the same-serial read has completed (R27). -/
  readDone : Bool
  deriving DecidableEq, Repr

/-- The part-wide slot timing settings in ms, and the admission queue (R6, R12). -/
structure SlotControl where
  debounce : Nat
  inrush : Nat
  drain : Nat
  queue : List SlotId
  deriving DecidableEq, Repr

/-! ### Identity Reader (R33) -/

inductive ReadPurpose where
  | admission | recovery | host
  deriving DecidableEq, Repr

inductive ReadOutcome where
  | good | idUnreadable | idFormat | addressConflict | routeTableFull
  deriving DecidableEq, Repr

/-- The checks of R38 and R39 in the order of their tables, and ADDRESS_CHANGED of R43. -/
inductive CheckName where
  | version | addressCount | flags | blockCount
  | cardKind | declaredDraw | txWithoutTiming | serial | internalDelay | echoTurnaround | addressValue
  | addressDuplicate | prioritySuggestion | asymmetry | padding | addressChanged
  deriving DecidableEq, Repr

structure LastOutcome where
  outcome : ReadOutcome
  status : ReadStatus
  block : Option Nat
  purpose : ReadPurpose
  frame : FrameCount
  check : Option CheckName
  deriving DecidableEq, Repr

/-- A host read's result (R33, R44): for ENDED the outcome, the status, the last corrected or failing block, the blocks
decoded (their fields are read from them) and the first failed check. -/
inductive HostResult where
  | none | inFlight
  | ended (outcome : ReadOutcome) (status : ReadStatus) (block : Option Nat) (blocks : List (BitVec 64))
      (check : Option CheckName)
  | aborted
  deriving DecidableEq, Repr

structure ReadContext where
  /-- FREE is `none`; BUSY carries the purpose. -/
  line : Option ReadPurpose
  nextBlock : Nat
  reread : Bool
  blocks : List (BitVec 64)
  corrected : Option Nat
  lastOutcome : Option LastOutcome
  host : HostResult
  deriving DecidableEq, Repr

/-! ### Power Budget Unit (R46) -/

inductive CutoffCause where
  | host | input (i : InputId)
  deriving DecidableEq, Repr

structure CutoffLatch where
  cause : CutoffCause
  frame : FrameCount
  deriving DecidableEq, Repr

structure Budget where
  mains : Nat
  battery : Nat
  thermal : Nat
  effective : Nat
  limitBattery : Bool
  limitThermal : Bool
  powerOn : List SlotId
  /-- The episode is RUNNING. -/
  episode : Bool
  exceeded : Bool
  shedList : List SlotId
  restoring : Option SlotId
  /-- CLEAR is `none`. -/
  latch : Option CutoffLatch
  deriving DecidableEq, Repr

/-! ### Route Table (R67, R73, R75, R79) -/

/-- The kind and target of an entry: a slot for UNICAST, a group for GROUP. -/
inductive Target where
  | slot (n : SlotId) | group (g : GroupId)
  deriving DecidableEq, Repr

inductive Origin where
  | learned | provisioned
  deriving DecidableEq, Repr

structure Entry where
  address : Nat
  target : Target
  origin : Origin
  classes : PerClass Bool
  serving : Bool
  deriving DecidableEq, Repr

structure Routes where
  /-- Ascending in address; at most 96. -/
  table : List Entry
  groups : Vector (List SlotId) 16
  domains : Vector Nat 12
  join12 : Bool
  join13 : Bool
  join23 : Bool
  locked : Bool
  reports : Vector (List (Nat × Severity)) 12
  deriving DecidableEq, Repr

/-! ### Packet Buffer Manager (R83 to R86, R91 to R93, R99) -/

/-- A stored packet's descriptor (R84) with its bytes. The source is absent for an announcement. -/
structure Descriptor where
  id : Nat
  length : Nat
  cls : TrafficClass
  source : Option SlotId
  owed : List SlotId
  bytes : List Byte
  deriving DecidableEq, Repr

/-- A copy in a class queue or in transmission: the packet and its length. -/
structure Copy where
  id : Nat
  length : Nat
  deriving DecidableEq, Repr

structure Credit where
  limit : Nat
  outstanding : Nat
  unsent : Nat
  deriving DecidableEq, Repr

structure Port where
  queues : PerClass (List Copy)
  /-- The copy in transmission and its class. -/
  sending : Option (TrafficClass × Copy)
  limits : PerClass Nat
  sQuantum : Nat
  bQuantum : Nat
  sDeficit : Nat
  bDeficit : Nat
  /-- The turn is B's; S's when false. -/
  turnB : Bool
  turnOpened : Bool
  deriving DecidableEq, Repr

structure SlotCounters where
  accepted : Nat
  sent : Nat
  discarded : Nat
  deriving DecidableEq, Repr

structure Counters where
  perSlot : Vector SlotCounters 12
  badPacket : Nat
  creditOverrun : Nat
  noRoute : Nat
  retiring : Nat
  classBarred : Nat
  forbidden : Nat
  queueLimit : Nat
  skipped : Nat
  deriving DecidableEq, Repr

structure Buffer where
  free : Nat
  stored : List Descriptor
  nextId : Nat
  credits : Vector (PerClass Credit) 12
  lastServed : PerClass SlotId
  ports : Vector Port 12
  counters : Counters
  deriving DecidableEq, Repr

/-! ### Lane Ports (R88, R179, R180) -/

inductive LaneStatus where
  | down | training | up
  deriving DecidableEq, Repr

/-- A packet in reception: its first block and o, the outstanding credit of its class when that block arrived (R88). -/
structure Reception where
  block : List Byte
  credit : Nat
  deriving DecidableEq, Repr

structure Lane where
  status : LaneStatus
  quiet : Bool
  reception : Option Reception
  deriving DecidableEq, Repr

/-- A credit message on a lane (R87): it names one class and a number of blocks, 1 to 64. -/
structure CreditMessage where
  cls : TrafficClass
  blocks : Nat
  deriving DecidableEq, Repr

/-! ### Timebase Unit (R104, R107, R110) -/

inductive QOrigin where
  | free | held
  deriving DecidableEq, Repr

/-- The timing quality; the origin exists in ACQUIRING only. -/
inductive Quality where
  | freerun
  | acquiring (o : QOrigin)
  | locked | holdover
  deriving DecidableEq, Repr

/-- An edge filter (R107), and the level that its input shows, which a run of the oscillator goes on sampling (log 8). -/
structure EdgeFilter where
  level : Bool
  count : Nat
  raw : Bool
  deriving DecidableEq, Repr

/-- A source of the reference list with its qualification record. -/
structure RefRec where
  src : Ref
  qualified : Bool
  /-- The oscillator period of the last recorded edge. -/
  lastEdge : Option Nat
  plausible : Nat
  implausible : Nat
  deriving DecidableEq, Repr

structure Timebase where
  /-- The model's count of oscillator periods since the last full reset. -/
  osc : Nat
  p : Nat
  cfc : FrameCount
  acc : Nat
  steer : Int
  integral : Int
  quality : Quality
  stepPending : Bool
  switchPending : Bool
  goodCount : Nat
  jumpCount : Nat
  selected : Option Ref
  everSelected : Bool
  holdElapsed : Nat
  refs : List RefRec
  revertive : Bool
  cableDelay : Nat
  refOffset : Nat
  holdoverLimit : Nat
  samplePeriod : Nat
  extFilter : EdgeFilter
  teFilters : Vector EdgeFilter 12
  /-- The error of the last edge put to the steering computation, and its frame count (R122). -/
  lastError : Option (Int × FrameCount)
  deriving DecidableEq, Repr

/-! ### Slot Timing Unit (R125) -/

inductive TimingState where
  | off | measuring | aligned | unstable
  deriving DecidableEq, Repr

/-- The items that exist while measuring is set. -/
structure Attempt where
  failed : Nat
  /-- An attempt is in progress: it began at a frame boundary (R126). -/
  running : Bool
  sent : Nat
  accepted : List Nat
  lost : Nat
  outOfRange : Nat
  /-- The open probe window's start period. -/
  window : Option Nat
  deriving DecidableEq, Repr

/-- M, n and the sum of a computation (R130). -/
structure MedianData where
  median : Nat
  kept : Nat
  sum : Nat
  deriving DecidableEq, Repr

/-- Staged values: origin RESULT carries the computation's data for the last result; TRIM has none. -/
structure Staged where
  delay : Nat
  comp : Nat
  result : Option MedianData
  deriving DecidableEq, Repr

inductive AttemptOutcome where
  | succeeded | failed | aborted
  deriving DecidableEq, Repr

structure LastAttempt where
  outcome : AttemptOutcome
  sent : Nat
  accepted : Nat
  lost : Nat
  outOfRange : Nat
  deriving DecidableEq, Repr

structure LastResult where
  data : MedianData
  delay : Nat
  comp : Nat
  frame : FrameCount
  deriving DecidableEq, Repr

/-- The FP output: low, or high for a probe or a frame pulse since a period (R127, R135). -/
inductive FpOutput where
  | low | probe (start : Nat) | pulse (start : Nat)
  deriving DecidableEq, Repr

structure TimingRec where
  state : TimingState
  /-- Measuring is set while this is present. -/
  measuring : Option Attempt
  /-- D and C. -/
  values : Option (Nat × Nat)
  staged : Option Staged
  trim : Int
  unstableRaised : Bool
  lastAttempt : Option LastAttempt
  lastResult : Option LastResult
  probeFrame : Bool
  probeDue : Bool
  fp : FpOutput
  deriving DecidableEq, Repr

/-! ### Gate Generator (R141, R142) -/

structure Window where
  start : Nat
  stop : Nat
  deriving DecidableEq, Repr

structure Pattern where
  number : Nat
  windows : List Window
  guardTime : Nat
  deriving DecidableEq, Repr

/-- A window occurrence is named by its slot frame and its place in the list (R145). -/
structure Occurrence where
  frame : FrameCount
  place : Nat
  deriving DecidableEq, Repr

structure Gate where
  txg : Bool
  approached : Option Occurrence
  guardHold : Nat
  deriving DecidableEq, Repr

structure Gates where
  active : Pattern
  staged : Option (Pattern × FrameCount)
  settle : Nat
  maintenance : Bool
  slots : Vector Gate 12
  deriving DecidableEq, Repr

/-! ### Alarm Unit (R152, R158, R163) -/

/-- A hold of an alarm input: the level held, the period at which it began and the debounce in force then. -/
structure InputHold where
  level : Bool
  timer : Timer
  deriving DecidableEq, Repr

structure InputRec where
  polarity : Polarity
  debounce : Nat
  action : InputAction
  severity : Severity
  raw : Bool
  /-- The filtered level; high is true. -/
  level : Bool
  hold : Option InputHold
  deriving DecidableEq, Repr

/-- The alarm codes in the order of the code table of section 9.2. -/
inductive AlarmCode where
  | partRestarted | inputActive | cutoffActive | budgetShedding | budgetExceeded | slotFault | surpriseRemoval
  | powerStuck | idCorrected | creditViolation | domainViolation | delayUnstable | cardReport | referenceLost
  | timingHoldover | timingFreerun | phaseStep
  deriving DecidableEq, Repr

inductive AlarmSource where
  | part | input (i : InputId) | slot (n : SlotId) | ref (r : Ref)
  deriving DecidableEq, Repr

structure AlarmRec where
  code : AlarmCode
  source : AlarmSource
  subcode : Nat
  severity : Severity
  /-- ACTIVE; CLEARED when false. -/
  active : Bool
  acknowledged : Bool
  raiseCount : Nat
  firstRaise : FrameCount
  lastChange : FrameCount
  deriving DecidableEq, Repr

structure Alarms where
  inputs : Vector InputRec 8
  table : List AlarmRec
  overflow : Bool
  criticalMode : RelayMode
  majorMode : RelayMode
  minorMode : RelayMode
  deriving DecidableEq, Repr

/-! ### Management Port (R168 to R178) -/

/-- HUNT, or FRAME with the bytes after SYNC taken so far (R169). -/
inductive Receiver where
  | hunt | frame (bytes : List Byte)
  deriving DecidableEq, Repr

/-- A frame of the transmit queue; a reply holds a reply place, any other a notice place (R173). -/
structure TxFrame where
  isReply : Bool
  frame : Frame
  deriving DecidableEq, Repr

/-- The progress of a RESTART (R177). -/
inductive RestartPhase where
  | none | replyPlaced | replySent
  deriving DecidableEq, Repr

structure Mgmt where
  receiver : Receiver
  requests : List Frame
  transmit : List TxFrame
  noticesLost : Bool
  discarded : Nat
  lineRate : LineRate
  resetCause : ResetCause
  resetFrame : FrameCount
  restart : RestartPhase
  deriving DecidableEq, Repr

/-- The whole part, and the commands that wait for it, first in first out. -/
structure State where
  slots : Vector SlotRec 12
  sc : SlotControl
  readers : Vector ReadContext 12
  budget : Budget
  routes : Routes
  buffer : Buffer
  lanes : Vector Lane 12
  /-- The credit messages that each Lane Port sent at its last sending, in their order (R87); none before the first. DESIGN
  CHOICE (log 33). -/
  creditMessages : Vector (List CreditMessage) 12
  tb : Timebase
  timing : Vector TimingRec 12
  pulseHold : Bool
  gates : Gates
  alarms : Alarms
  mgmt : Mgmt
  pending : List Instr
  deriving DecidableEq, Repr

/-! ### Reset values -/

/-- A slot record after a full reset (R6). The levels of the four input pins are what the pins show; no card is the
model's choice for the state after power-on. DESIGN CHOICE (log 2). -/
def SlotRec.reset : SlotRec where
  state := .empty
  identity := none
  policy := .approval
  waived := false
  priority := 4
  priorityByHost := false
  txInhibit := false
  drawCounted := 0
  lastChange := 0
  pwrEn := false
  pwrGood := false
  presentRaw := false
  present := false
  presentHold := none
  latchRaw := false
  latchClosed := false
  latchHold := none
  goodHold := none
  inrushWindow := none
  trainLimit := none
  drainLimit := none
  offWait := none
  holdDone := false
  readDone := false

/-- The part-wide slot settings after a full reset (R6). -/
def SlotControl.reset : SlotControl := ⟨50, 100, 100, []⟩

/-- A read context after a full reset (R33). The items of a read not in flight are the model's choice (log 3). -/
def ReadContext.reset : ReadContext := ⟨none, 1, false, [], none, none, .none⟩

/-- The budget state after a full reset (R46). -/
def Budget.reset : Budget where
  mains := 8000
  battery := 4000
  thermal := 6000
  effective := 8000
  limitBattery := false
  limitThermal := false
  powerOn := []
  episode := false
  exceeded := false
  shedList := []
  restoring := none
  latch := none

/-- The Route Table after a full reset (R82). -/
def Routes.reset : Routes where
  table := []
  groups := Vector.replicate 16 []
  domains := Vector.replicate 12 0
  join12 := false
  join13 := false
  join23 := false
  locked := false
  reports := Vector.replicate 12 []

/-- A port after a full reset (R91, R93). -/
def Port.reset : Port where
  queues := ⟨[], [], [], []⟩
  sending := none
  limits := ⟨8, 32, 96, 64⟩
  sQuantum := 4
  bQuantum := 2
  sDeficit := 0
  bDeficit := 0
  turnB := false
  turnOpened := false

/-- The counters after a full reset and a RESTART (R99). -/
def Counters.zero : Counters := ⟨Vector.replicate 12 ⟨0, 0, 0⟩, 0, 0, 0, 0, 0, 0, 0, 0⟩

/-- The packet buffer after a full reset (R83, R85, R86, R99). -/
def Buffer.reset : Buffer where
  free := Config.poolBlocks
  stored := []
  nextId := 0
  credits := Vector.replicate 12 ⟨⟨4, 0, 0⟩, ⟨8, 0, 0⟩, ⟨16, 0, 0⟩, ⟨8, 0, 0⟩⟩
  lastServed := ⟨11, 11, 11, 11⟩
  ports := Vector.replicate 12 Port.reset
  counters := Counters.zero

/-- A lane after a full reset (R179, R180). -/
def Lane.reset : Lane := ⟨.down, false, none⟩

/-- The Timebase Unit after a full reset (R104, R107); that every edge input shows low is the model's choice for the state
after power-on. DESIGN CHOICE (log 2). -/
def Timebase.reset : Timebase where
  osc := 0
  p := 0
  cfc := 0
  acc := 0
  steer := 0
  integral := 0
  quality := .freerun
  stepPending := false
  switchPending := false
  goodCount := 0
  jumpCount := 0
  selected := none
  everSelected := false
  holdElapsed := 0
  refs := []
  revertive := true
  cableDelay := 0
  refOffset := 0
  holdoverLimit := 14400
  samplePeriod := 2
  extFilter := ⟨false, 0, false⟩
  teFilters := Vector.replicate 12 ⟨false, 0, false⟩
  lastError := none

/-- A timing record after a full reset (R125). -/
def TimingRec.reset : TimingRec where
  state := .off
  measuring := none
  values := none
  staged := none
  trim := 0
  unstableRaised := false
  lastAttempt := none
  lastResult := none
  probeFrame := false
  probeDue := false
  fp := .low

/-- A slot's gate state after a full reset (R142). -/
def Gate.reset : Gate := ⟨false, none, 0⟩

/-- The Gate Generator after a full reset (R142). -/
def Gates.reset : Gates where
  active := ⟨0, [], 2458⟩
  staged := none
  settle := 0
  maintenance := false
  slots := Vector.replicate 12 Gate.reset

/-- An input record after a full reset (R152); the raw level is the pin's (log 2). -/
def InputRec.reset : InputRec where
  polarity := .activeLow
  debounce := 50
  action := .report
  severity := .minor
  raw := true
  level := true
  hold := none

/-- PART_RESTARTED right after it is raised at a full reset with a cause of number `cause` (R167): an event record,
CLEARED and not acknowledged. -/
def AlarmRec.restarted (cause : Nat) : AlarmRec where
  code := .partRestarted
  source := .part
  subcode := cause
  severity := .warning
  active := false
  acknowledged := false
  raiseCount := 1
  firstRaise := 0
  lastChange := 0

/-- The Alarm Unit after a power-on reset, PART_RESTARTED raised (R152, R158, R163, R167). -/
def Alarms.reset : Alarms where
  inputs := Vector.replicate 8 InputRec.reset
  table := [AlarmRec.restarted 0]
  overflow := false
  criticalMode := .latch
  majorMode := .latch
  minorMode := .latch

/-- The ALARM notice of PART_RESTARTED with cause POWER_ON (R165, R175, R184): change EVENT, the 16-byte record, the
overflow flag and the lost-notices field. -/
def restartedNotice : Frame where
  kind := 0x42
  tag := 0
  payload := [1, 0, 0, 0, 0, 0, 1, 0, 1, 0, 0, 0, 0, 0, 0, 0, 0, 0, 0]

/-- The Management Port after a power-on reset (R178); the strap reads 115,200 baud. DESIGN CHOICE (log 6). -/
def Mgmt.reset : Mgmt where
  receiver := .hunt
  requests := []
  transmit := [⟨false, restartedNotice⟩]
  noticesLost := false
  discarded := 0
  lineRate := .baud115200
  resetCause := .powerOn
  resetFrame := 0
  restart := .none

/-- The part right after a power-on reset, with PART_RESTARTED raised and its notice in the transmit queue. -/
def State.reset : State where
  slots := Vector.replicate 12 SlotRec.reset
  sc := SlotControl.reset
  readers := Vector.replicate 12 ReadContext.reset
  budget := Budget.reset
  routes := Routes.reset
  buffer := Buffer.reset
  lanes := Vector.replicate 12 Lane.reset
  creditMessages := Vector.replicate 12 []
  tb := Timebase.reset
  timing := Vector.replicate 12 TimingRec.reset
  pulseHold := false
  gates := Gates.reset
  alarms := Alarms.reset
  mgmt := Mgmt.reset
  pending := []

end Sys2Proof.Machine
end

