-- ==== Sys2Proof/Machine/Operands.lean ====
section
/-! DEFINITION. The operands of commands: which slot, input or group a number names, how settings are clamped (R4), and the
numbers of the enumerations that replies and notices carry (R182). -/

namespace Sys2Proof.Machine

/-- The twelve slots in ascending order. -/
def allSlots : List SlotId := [0, 1, 2, 3, 4, 5, 6, 7, 8, 9, 10, 11]
/-- The eight alarm inputs in ascending order. -/
def allInputs : List InputId := [0, 1, 2, 3, 4, 5, 6, 7]
/-- The sixteen groups in ascending order. -/
def allGroups : List GroupId := [0, 1, 2, 3, 4, 5, 6, 7, 8, 9, 10, 11, 12, 13, 14, 15]
/-- The four classes in the order T, C, S, B. -/
def allClasses : List TrafficClass := [.t, .c, .s, .b]

/-- The same operation on every entry of a vector. It recurs on the list of the entries, so that the kernel evaluates it. -/
def mapEach {α β : Type} {k : Nat} (f : α → β) (v : Vector α k) : Vector β k :=
  ⟨⟨v.toList.map f⟩, by simp⟩

/-- The slot that a number names, 1 to 12. -/
def slotOf (k : Nat) : Option SlotId :=
  if h : 1 ≤ k ∧ k ≤ 12 then some ⟨k - 1, by omega⟩ else none
/-- The alarm input that a number names, 1 to 8. -/
def inputOf (k : Nat) : Option InputId :=
  if h : 1 ≤ k ∧ k ≤ 8 then some ⟨k - 1, by omega⟩ else none
/-- The group that a number names, 1 to 16. -/
def groupOf (k : Nat) : Option GroupId :=
  if h : 1 ≤ k ∧ k ≤ 16 then some ⟨k - 1, by omega⟩ else none
/-- The reference that a reference byte names: 0 is EXT, 1 to 12 a slot (R182). -/
def refOf (k : Nat) : Option Ref :=
  if k = 0 then some .ext else (slotOf k).map .slot
/-- An address that can stand in the forwarding table, 1 to 254 (R67). -/
def isCardAddress (a : Nat) : Bool := 1 ≤ a && a ≤ 254

/-- The nearest value of a range (R4). -/
def clampNat (lo hi x : Nat) : Nat := if x < lo then lo else if hi < x then hi else x
/-- The nearest value of a range of signed numbers (R4). -/
def clampInt (lo hi x : Int) : Int := if x < lo then lo else if hi < x then hi else x
/-- A debounce: rounded down to a multiple of 10 ms, then clamped to 10..250 (R31, R156). -/
def takeDebounce (x : Nat) : Nat := clampNat 10 250 (x / 10 * 10)

/-- The value of one class. -/
def perClass {α : Type} (x : PerClass α) : TrafficClass → α
  | .t => x.t | .c => x.c | .s => x.s | .b => x.b
/-- The values with that of one class replaced. -/
def setClass {α : Type} (x : PerClass α) (k : TrafficClass) (a : α) : PerClass α :=
  match k with
  | .t => { x with t := a }
  | .c => { x with c := a }
  | .s => { x with s := a }
  | .b => { x with b := a }
/-- The class of the two low bits of a packet's class byte (R185). -/
def classOf (n : Nat) : TrafficClass :=
  match n % 4 with
  | 0 => .t | 1 => .c | 2 => .s | _ => .b

/-! ### Numbers of enumerations (R182) -/

def ResetCause.number : ResetCause → Nat
  | .powerOn => 0 | .resetPin => 1 | .supplyDip => 2 | .restart => 3
def FaultReason.number : FaultReason → Nat
  | .idUnreadable => 0 | .idFormat => 1 | .addressConflict => 2 | .routeTableFull => 3 | .inrushTimeout => 4
  | .laneTrainFail => 5 | .powerLost => 6 | .cutoff => 7 | .idChanged => 8
def AwaitReason.number : AwaitReason → Nat
  | .approval => 0 | .budget => 1
def OffPurpose.number : OffPurpose → Nat
  | .normal => 0 | .shed => 1 | .cycle => 2
def SlotState.number : SlotState → Nat
  | .empty => 0 | .detected => 1 | .identifying => 2 | .awaiting _ => 3 | .powering => 4 | .training => 5
  | .active => 6 | .draining _ => 7 | .poweringOff _ => 8 | .poweredDown => 9 | .shed => 10 | .faulted _ => 11
  | .recovering => 12
/-- The reason that a state carries: fault reason, awaiting reason or off purpose (R25). -/
def SlotState.reason : SlotState → Option Nat
  | .awaiting r => some (AwaitReason.number r)
  | .draining p => some (OffPurpose.number p)
  | .poweringOff p => some (OffPurpose.number p)
  | .faulted r => some (FaultReason.number r)
  | .empty | .detected | .identifying | .powering | .training | .active | .poweredDown | .shed | .recovering => none
def classNumber : TrafficClass → Nat
  | .t => 0 | .c => 1 | .s => 2 | .b => 3
def Quality.number : Quality → Nat
  | .freerun => 0 | .acquiring _ => 1 | .locked => 2 | .holdover => 3
def QOrigin.number : QOrigin → Nat
  | .free => 0 | .held => 1
def TimingState.number : TimingState → Nat
  | .off => 0 | .measuring => 1 | .aligned => 2 | .unstable => 3
def AlarmCode.number : AlarmCode → Nat
  | .partRestarted => 0 | .inputActive => 1 | .cutoffActive => 2 | .budgetShedding => 3 | .budgetExceeded => 4
  | .slotFault => 5 | .surpriseRemoval => 6 | .powerStuck => 7 | .idCorrected => 8 | .creditViolation => 9
  | .domainViolation => 10 | .delayUnstable => 11 | .cardReport => 12 | .referenceLost => 13 | .timingHoldover => 14
  | .timingFreerun => 15 | .phaseStep => 16
/-- The alarm code of a code byte. -/
def alarmCodeOf : Nat → Option AlarmCode
  | 0 => some .partRestarted | 1 => some .inputActive | 2 => some .cutoffActive | 3 => some .budgetShedding
  | 4 => some .budgetExceeded | 5 => some .slotFault | 6 => some .surpriseRemoval | 7 => some .powerStuck
  | 8 => some .idCorrected | 9 => some .creditViolation | 10 => some .domainViolation | 11 => some .delayUnstable
  | 12 => some .cardReport | 13 => some .referenceLost | 14 => some .timingHoldover | 15 => some .timingFreerun
  | 16 => some .phaseStep
  | _ => none
/-- The number of a reference byte. -/
def refNumber : Ref → Nat
  | .ext => 0 | .slot n => slotNumber n
def AlarmSource.kindNumber : AlarmSource → Nat
  | .part => 0 | .input _ => 1 | .slot _ => 2 | .ref _ => 3
def AlarmSource.itemNumber : AlarmSource → Nat
  | .part => 0 | .input i => inputNumber i | .slot n => slotNumber n | .ref r => refNumber r
/-- The source of a source kind byte and a number (R162): none where the number is out of the kind's range. -/
def alarmSourceOf (kind k : Nat) : Option AlarmSource :=
  match kind with
  | 0 => if k = 0 then some .part else none
  | 1 => (inputOf k).map .input
  | 2 => (slotOf k).map .slot
  | 3 => (refOf k).map .ref
  | _ => none
def CardKind.number : CardKind → Nat
  | .radio => 0 | .baseband => 1 | .transport => 2 | .power => 3 | .fan => 4 | .battery => 5 | .other => 6
/-- The card kind of block 1's kind byte (R187). -/
def cardKindOf : Nat → Option CardKind
  | 0 => some .radio | 1 => some .baseband | 2 => some .transport | 3 => some .power | 4 => some .fan
  | 5 => some .battery | 6 => some .other | _ => none
def ReadPurpose.number : ReadPurpose → Nat
  | .admission => 0 | .recovery => 1 | .host => 2
def ReadStatus.number : ReadStatus → Nat
  | .clean => 0 | .corrected => 1 | .uncorrectable => 2
def ReadOutcome.number : ReadOutcome → Nat
  | .good => 0 | .idUnreadable => 1 | .idFormat => 2 | .addressConflict => 3 | .routeTableFull => 4
def CheckName.number : CheckName → Nat
  | .version => 0 | .addressCount => 1 | .flags => 2 | .blockCount => 3 | .cardKind => 4 | .declaredDraw => 5
  | .txWithoutTiming => 6 | .serial => 7 | .internalDelay => 8 | .echoTurnaround => 9 | .addressValue => 10
  | .addressDuplicate => 11 | .prioritySuggestion => 12 | .asymmetry => 13 | .padding => 14 | .addressChanged => 15
def AttemptOutcome.number : AttemptOutcome → Nat
  | .succeeded => 0 | .failed => 1 | .aborted => 2

/-- The refusal reasons in the order of R172. -/
inductive Reason where
  | malformed | unknownKind | queueFull | badField | wrongState | busy | tableFull | locked | notFound | stale | conflict
  deriving DecidableEq, Repr
def Reason.number : Reason → Nat
  | .malformed => 0 | .unknownKind => 1 | .queueFull => 2 | .badField => 3 | .wrongState => 4 | .busy => 5
  | .tableFull => 6 | .locked => 7 | .notFound => 8 | .stale => 9 | .conflict => 10

/-- The changes that an ALARM notice reports, in the order of R165. -/
inductive AlarmChange where
  | raised | event | cleared | clearRemoved | ackRemoved | evicted | notRecorded
  deriving DecidableEq, Repr
def AlarmChange.number : AlarmChange → Nat
  | .raised => 0 | .event => 1 | .cleared => 2 | .clearRemoved => 3 | .ackRemoved => 4 | .evicted => 5
  | .notRecorded => 6

end Sys2Proof.Machine
end

