-- ==== Sys2Proof/Machine/Flags.lean ====
section
/-! DEFINITION. Every item that a rule defines as a function of other items: draws, entry states, levels and conditions of
alarm inputs and relays, eligibility of references, slot positions, RXG and the transmit conditions. -/

namespace Sys2Proof.Machine

/-! ### Slots and draws (sections 1.2, 3.2) -/

/-- The six powered states (section 1.2). -/
def SlotState.powered : SlotState → Bool
  | .powering | .training | .active | .draining _ | .poweringOff _ | .recovering => true
  | .empty | .detected | .identifying | .awaiting _ | .poweredDown | .shed | .faulted _ => false
/-- The states whose draw is in the staying draw (R48). -/
def SlotState.staying : SlotState → Bool
  | .powering | .training | .active | .recovering => true
  | .empty | .detected | .identifying | .awaiting _ | .draining _ | .poweringOff _ | .poweredDown | .shed
  | .faulted _ => false
/-- The states of the power-on list (R48). -/
def SlotState.onPowerList : SlotState → Bool
  | .powering | .training | .recovering => true
  | .empty | .detected | .identifying | .awaiting _ | .active | .draining _ | .poweringOff _ | .poweredDown | .shed
  | .faulted _ => false
/-- ACTIVE or DRAINING: the states in which the lane is up and credit is held (R85, R92, R179). -/
def SlotState.inTraffic : SlotState → Bool
  | .active | .draining _ => true
  | .empty | .detected | .identifying | .awaiting _ | .powering | .training | .poweringOff _ | .poweredDown | .shed
  | .faulted _ | .recovering => false
/-- ACTIVE or RECOVERING: in service for the gates (R146, R147). -/
def SlotState.gated : SlotState → Bool
  | .active | .recovering => true
  | .empty | .detected | .identifying | .awaiting _ | .powering | .training | .draining _ | .poweringOff _
  | .poweredDown | .shed | .faulted _ => false

/-- The committed draw (R48). -/
def committed (s : State) : Nat := (allSlots.map fun n => s.slots[n].drawCounted).sum
/-- The staying draw (R48). -/
def staying (s : State) : Nat :=
  (allSlots.map fun n => if s.slots[n].state.staying then s.slots[n].drawCounted else 0).sum

/-- The identity record of a slot record. -/
def cardOf (s : State) (n : SlotId) : Option Identity := (s.slots[n].identity).map (·.record)
/-- The card of a slot needs timing (section 2.1). -/
def needsTiming (s : State) (n : SlotId) : Bool := (cardOf s n).any (·.needsTiming)
/-- The declared draw of a slot's identity record. -/
def declaredDraw (s : State) (n : SlotId) : Nat := ((cardOf s n).map (·.draw)).getD 0

/-! ### Alarm inputs (R47, R150, R152) -/

/-- An input is active while its filtered level is the active level of its polarity (R152). -/
def InputRec.isActive (r : InputRec) : Bool :=
  match r.polarity with
  | .activeLow => !r.level
  | .activeHigh => r.level
/-- Some input with this action is active. -/
def actionActive (s : State) (a : InputAction) : Bool :=
  allInputs.any fun i => s.alarms.inputs[i].action == a && s.alarms.inputs[i].isActive
/-- The effective capacity of the capacities and the active inputs (R47). -/
def effectiveCapacity (s : State) : Nat :=
  let c := if actionActive s .mainsFail then min s.budget.mains s.budget.battery else s.budget.mains
  if actionActive s .thermal then min c s.budget.thermal else c

/-! ### Relays (R163) -/

/-- The condition of a relay of one severity. -/
def severityCondition (table : List AlarmRec) (mode : RelayMode) (v : Severity) : Bool :=
  table.any fun r => r.severity == v && (r.active || (mode == .latch && !r.acknowledged))
/-- The condition of a relay. -/
def relayCondition (a : Alarms) : RelayName → Bool
  | .critical => severityCondition a.table a.criticalMode .critical
  | .major => severityCondition a.table a.majorMode .major
  | .minor => severityCondition a.table a.minorMode .minor
  | .summary => severityCondition a.table a.criticalMode .critical || severityCondition a.table a.majorMode .major
      || severityCondition a.table a.minorMode .minor
/-- A relay is energised while its condition is false. -/
def relayEnergised (a : Alarms) (r : RelayName) : Bool := !relayCondition a r

/-! ### Forwarding entries and domains (R68, R75) -/

inductive EntryState where
  | active | inactive | retiring
  deriving DecidableEq, Repr

/-- The state of an entry, taken from the slot states (R68). -/
def entryState (s : State) (e : Entry) : EntryState :=
  match e.target with
  | .slot n =>
    match s.slots[n].state with
    | .active => .active
    | .draining _ => .retiring
    | .empty | .detected | .identifying | .awaiting _ | .powering | .training | .poweringOff _ | .poweredDown | .shed
    | .faulted _ | .recovering => .inactive
  | .group g => if s.routes.groups[g].any (fun n => s.slots[n].state == .active) then .active else .inactive
/-- The matrix joins two operator domains (R75). -/
def joined (r : Routes) (a b : Nat) : Bool :=
  match a, b with
  | 1, 2 | 2, 1 => r.join12
  | 1, 3 | 3, 1 => r.join13
  | 2, 3 | 3, 2 => r.join23
  | _, _ => false
/-- The domain test (R75). -/
def domainPass (r : Routes) (src dst : SlotId) : Bool :=
  r.domains[src] == r.domains[dst] || r.domains[src] == 0 || r.domains[dst] == 0
    || joined r r.domains[src] r.domains[dst]

/-! ### Buffer counts (R83, R91) -/

/-- The stored count: the lengths of the stored packets. -/
def storedBlocks (b : Buffer) : Nat := (b.stored.map (·.length)).sum
/-- The outstanding credit of a slot in all classes. -/
def slotOutstanding (b : Buffer) (n : SlotId) : Nat :=
  b.credits[n].t.outstanding + b.credits[n].c.outstanding + b.credits[n].s.outstanding + b.credits[n].b.outstanding
/-- The outstanding count over all slots and classes. -/
def outstandingBlocks (b : Buffer) : Nat := (allSlots.map (slotOutstanding b)).sum
/-- The occupancy of a class queue (R91). -/
def occupancy (p : Port) (k : TrafficClass) : Nat :=
  ((perClass p.queues k).map (·.length)).sum
    + (match p.sending with | some (k', c) => if k' = k then c.length else 0 | none => 0)
/-- A port is empty (R91). -/
def portEmpty (p : Port) : Bool :=
  p.queues.t.isEmpty && p.queues.c.isEmpty && p.queues.s.isEmpty && p.queues.b.isEmpty && p.sending.isNone

/-! ### Timebase (R105, R106, R109) -/

/-- The second-position (R105). -/
def secondPosition (tb : Timebase) : Nat := tb.cfc.toNat % 100 * Config.frameTicks + tb.p
/-- CFC has reached or passed a target (R106). -/
def reached (cfc target : FrameCount) : Bool := (cfc - target).toNat < 2147483648
/-- The filter latency of an edge (R107). -/
def filterLatency (tb : Timebase) : Nat := 4 * tb.samplePeriod
/-- A source is on the reference list. -/
def onList (tb : Timebase) (r : Ref) : Bool := tb.refs.any (·.src == r)
/-- A slot is an eligible reference (R109). -/
def eligible (s : State) (n : SlotId) : Bool :=
  onList s.tb (.slot n) && s.slots[n].state == .active && (cardOf s n).any (fun c => c.kind == .transport)
    && s.timing[n].state == .aligned && s.timing[n].measuring.isNone
/-- A source on the list takes part in qualification (R109). -/
def canServe (s : State) : Ref → Bool
  | .ext => onList s.tb .ext
  | .slot n => eligible s n

/-- The frame-pulse position of a compensation C (R130). -/
def pulsePosition (c : Nat) : Nat := (Config.frameTicks - c % Config.frameTicks) % Config.frameTicks

/-! ### Patterns and gates (R141 to R147) -/

/-- A staged pattern is due (R144). -/
def patternDue (s : State) : Bool :=
  match s.gates.staged with
  | some (_, target) => reached (s.tb.cfc + 1) target
  | none => false
/-- The pattern of the slot frame after the present cabinet frame (R145). -/
def nextPattern (s : State) : Pattern :=
  match s.gates.staged with
  | some (p, target) => if reached (s.tb.cfc + 1) target then p else s.gates.active
  | none => s.gates.active

/-- A window occurrence placed on the line of positions that continues from the present cabinet frame into the next:
`start` and `stop` are slot positions, with the frame's ticks added for the next slot frame. -/
structure Placed where
  occ : Occurrence
  start : Nat
  stop : Nat
  guardTime : Nat
  deriving DecidableEq, Repr

/-- The occurrences of one slot frame's pattern. -/
def placeWindows (frame : FrameCount) (offset guardTime : Nat) : Nat → List Window → List Placed
  | _, [] => []
  | k, w :: r => ⟨⟨frame, k⟩, offset + w.start, offset + w.stop, guardTime⟩ :: placeWindows frame offset guardTime (k + 1) r
/-- The occurrences that a slot position of the present cabinet frame can meet: those of slot frame CFC under the active
pattern and those of slot frame CFC + 1 under the pattern of that slot frame (R145). -/
def occurrences (s : State) : List Placed :=
  placeWindows s.tb.cfc 0 s.gates.active.guardTime 0 s.gates.active.windows
    ++ placeWindows (s.tb.cfc + 1) Config.frameTicks (nextPattern s).guardTime 0 (nextPattern s).windows

/-- C of a slot's timing record (R125). -/
def compOf (s : State) (n : SlotId) : Nat := ((s.timing[n].values).map (·.2)).getD 0
/-- The slot coordinate: P + C, which is the slot position, or the slot position plus the frame's ticks once the slot
frame is CFC + 1 (R145). -/
def slotCoord (s : State) (n : SlotId) : Nat := s.tb.p + compOf s n
/-- The slot position and slot frame (R145), of an ALIGNED slot. -/
def slotPosition (s : State) (n : SlotId) : Nat × FrameCount :=
  if slotCoord s n < Config.frameTicks then (slotCoord s n, s.tb.cfc)
  else (slotCoord s n - Config.frameTicks, s.tb.cfc + 1)
/-- A coordinate lies in an occurrence or in its leading guard (R145, R146). -/
def Placed.covers (o : Placed) (u : Nat) : Bool := o.start ≤ u + o.guardTime && u < o.stop
/-- A coordinate lies in an occurrence. -/
def Placed.inside (o : Placed) (u : Nat) : Bool := o.start ≤ u && u < o.stop

/-- The slot is ALIGNED (R125). -/
def aligned (s : State) (n : SlotId) : Bool := s.timing[n].state == .aligned
/-- The card of the slot is a transmitter. -/
def transmitter (s : State) (n : SlotId) : Bool := (cardOf s n).any (·.transmitter)

/-- The level of RXG (R146). -/
def rxg (s : State) (n : SlotId) : Bool :=
  s.slots[n].state.gated && transmitter s n && aligned s n
    && !(occurrences s).any (·.covers (slotCoord s n)) && s.gates.slots[n].guardHold == 0

/-- The timing quality allows transmission (R147). -/
def Quality.vouched : Quality → Bool
  | .locked | .holdover => true
  | .freerun | .acquiring _ => false

/-- The transmit conditions of R147 in the order of its table: true where one holds. -/
def transmitConditions (s : State) (n : SlotId) : List Bool :=
  [s.slots[n].state.gated, transmitter s n, aligned s n, s.tb.quality.vouched, s.gates.settle == 0,
   s.budget.latch.isNone, !s.gates.maintenance, !s.slots[n].txInhibit]
/-- Every transmit condition holds (R147). -/
def mayTransmit (s : State) (n : SlotId) : Bool := (transmitConditions s n).all id
/-- The places of the transmit conditions that do not hold (R151). -/
def failing : Nat → List Bool → List Nat
  | _, [] => []
  | k, b :: r => if b then failing (k + 1) r else k :: failing (k + 1) r

/-! ### Management queues (R173) -/

/-- The reply places taken. -/
def repliesQueued (m : Mgmt) : Nat := (m.transmit.filter (·.isReply)).length
/-- The notice places taken. -/
def noticesQueued (m : Mgmt) : Nat := (m.transmit.filter (fun f => !f.isReply)).length

end Sys2Proof.Machine
end

