-- ==== Sys2Proof/Machine/Ops.lean ====
section
/-! DEFINITION. The named operations over the state: writing one record, counting, placing a reply and handing a notice, and
taking a request (R170 to R174, R184). -/

namespace Sys2Proof.Machine

/-! ### Writing one record -/

def State.setSlot (s : State) (n : SlotId) (r : SlotRec) : State := { s with slots := s.slots.set n r }
def State.updSlot (s : State) (n : SlotId) (f : SlotRec → SlotRec) : State := s.setSlot n (f s.slots[n])
def State.setReader (s : State) (n : SlotId) (r : ReadContext) : State := { s with readers := s.readers.set n r }
def State.setLane (s : State) (n : SlotId) (r : Lane) : State := { s with lanes := s.lanes.set n r }
def State.setTiming (s : State) (n : SlotId) (r : TimingRec) : State := { s with timing := s.timing.set n r }
def State.setGate (s : State) (n : SlotId) (r : Gate) : State :=
  { s with gates := { s.gates with slots := s.gates.slots.set n r } }
def State.setInput (s : State) (i : InputId) (r : InputRec) : State :=
  { s with alarms := { s.alarms with inputs := s.alarms.inputs.set i r } }
def State.setPort (s : State) (n : SlotId) (r : Port) : State :=
  { s with buffer := { s.buffer with ports := s.buffer.ports.set n r } }
def State.setCredits (s : State) (n : SlotId) (r : PerClass Credit) : State :=
  { s with buffer := { s.buffer with credits := s.buffer.credits.set n r } }
def State.setBudget (s : State) (b : Budget) : State := { s with budget := b }
def State.setTb (s : State) (t : Timebase) : State := { s with tb := t }

/-- An operation on each slot of a list in turn. -/
def eachSlot (f : SlotId → State → State) : List SlotId → State → State
  | [], s => s
  | n :: r, s => eachSlot f r (f n s)

/-- A counter rises by an amount and saturates (R3). -/
def bump (x by_ : Nat) : Nat := min Config.counterMax (x + by_)

/-- A timer of a length in ticks starts now. -/
def startTimer (s : State) (ticks : Nat) : Timer := ⟨s.tb.osc, ticks⟩
/-- A timer of a length in milliseconds starts now (R2). -/
def startTimerMs (s : State) (ms : Nat) : Timer := startTimer s (ms * Config.msTicks)

/-! ### Replies and notices -/

/-- The KIND of a REPLY frame (R183). -/
def kindReply : Byte := 0x40
/-- The KINDs of the notices (R183). -/
def kindSlotNotice : Byte := 0x41
def kindAlarmNotice : Byte := 0x42
def kindTimingNotice : Byte := 0x43

/-- A reply joins the transmit queue in a reply place (R173). -/
def placeReply (tag : Byte) (payload : List Byte) (s : State) : State :=
  { s with mgmt := { s.mgmt with transmit := s.mgmt.transmit ++ [⟨true, ⟨kindReply, tag, payload⟩⟩] } }
/-- An ACCEPTED reply: the answer byte and the data (R184). -/
def accept (kind : Nat) (tag : Byte) (data : List Byte) (s : State) : State :=
  placeReply tag (be8 (kind % 128) ++ data) s
/-- A REFUSED reply: the answer byte with its top bit, the reason, and the refusal data (R184). -/
def refuseWith (kind : Nat) (tag : Byte) (reason : Reason) (data : List Byte) (s : State) : State :=
  placeReply tag (be8 (kind % 128 + 128) ++ be8 reason.number ++ data) s
def refuse (kind : Nat) (tag : Byte) (reason : Reason) (s : State) : State := refuseWith kind tag reason [] s

/-- A block hands a notice (R174): it joins the tail of the transmit queue with its lost-notices field where one of the
four notice places is free, and is dropped otherwise. -/
def handNotice (kind : Byte) (payload : List Byte) (s : State) : State :=
  if noticesQueued s.mgmt < 4 then
    { s with mgmt := { s.mgmt with
        transmit := s.mgmt.transmit ++ [⟨false, ⟨kind, 0, payload ++ beFlag s.mgmt.noticesLost⟩⟩]
        noticesLost := false } }
  else { s with mgmt := { s.mgmt with noticesLost := true } }

/-- A cabinet frame count in four bytes. -/
def frameBytes (c : FrameCount) : List Byte := be32 c.toNat

/-- The SLOT notice of a slot as its record stands (R25, R175, R184). -/
def slotNotice (n : SlotId) (s : State) : State :=
  handNotice kindSlotNotice
    (be8 (slotNumber n) ++ be8 s.slots[n].state.number ++ beOpt be8 1 s.slots[n].state.reason
      ++ frameBytes s.slots[n].lastChange) s

/-- The TIMING notice of the present quality and selection (R117, R175, R184). -/
def timingNotice (s : State) : State :=
  handNotice kindTimingNotice
    (be8 s.tb.quality.number ++ beOpt (fun r => be8 (refNumber r)) 1 s.tb.selected ++ frameBytes s.tb.cfc) s

/-- The management frames discarded counter counts one (R169, R170). -/
def countDiscardedFrame (s : State) : State :=
  { s with mgmt := { s.mgmt with discarded := bump s.mgmt.discarded 1 } }

/-! ### Taking a request -/

/-- A request is executed when no RESTART waits for its reply (R177) and a reply place is free (R170), and it is the
head of the request queue. With an empty queue the command itself is the request, arriving and reaching the head at
once. DESIGN CHOICE (log 14). The answer is the state with the head taken out. -/
def takeRequest (c : Instr) (s : State) : Option State :=
  if s.mgmt.restart ≠ .none ∨ 4 ≤ repliesQueued s.mgmt then none
  else match s.mgmt.requests with
    | [] => some s
    | f :: rest => if parseRequest f = c then some { s with mgmt := { s.mgmt with requests := rest } } else none

/-- The execution of a request (R171): one that cannot be executed now waits and changes nothing; a payload that does
not fit is MALFORMED; a byte outside its range is BAD_FIELD before the owner's own tests (R182). -/
def runRequest {α : Type} (c : Instr) (kind : Nat) (tag : Byte) (body : Body α) (owner : α → State → State)
    (s : State) : Out State :=
  match takeRequest c s with
  | none => .next s
  | some s =>
    match body with
    | .fields f => .next (owner f s)
    | .malformed => .next (refuse kind tag .malformed s)
    | .badByte => .next (refuse kind tag .badField s)

/-- A request that names a slot: a number outside 1 to 12 is BAD_FIELD (section 1.12). -/
def withSlot (kind : Nat) (tag : Byte) (k : Nat) (owner : SlotId → State → State) (s : State) : State :=
  match slotOf k with
  | some n => owner n s
  | none => refuse kind tag .badField s

end Sys2Proof.Machine
end

