-- ==== Sys2Proof/Machine/Alarms.lean ====
section
/-! DEFINITION. The alarm table (R157 to R161, R165): raise, event, clear, eviction, and the ALARM notices. -/

namespace Sys2Proof.Machine

/-- The rank of a severity in rising order. -/
def Severity.rank (v : Severity) : Nat := v.code

/-- The fixed 16-byte form of an alarm record (R184). -/
def alarmBytes (r : AlarmRec) : List Byte :=
  be8 r.code.number ++ be8 r.source.kindNumber ++ be8 r.source.itemNumber ++ be8 r.subcode ++ be8 r.severity.code
    ++ be8 (if r.active then 0 else 1) ++ beFlag r.acknowledged ++ be8 r.raiseCount ++ frameBytes r.firstRaise
    ++ frameBytes r.lastChange

/-- An ALARM notice of a record (R165, R175). -/
def alarmNotice (change : AlarmChange) (r : AlarmRec) (s : State) : State :=
  handNotice kindAlarmNotice (be8 change.number ++ alarmBytes r ++ beFlag s.alarms.overflow) s

/-- The ALARM notice of a raise that was not recorded: bytes 5 to 15 of its record are 0 (R184). -/
def notRecordedNotice (code : AlarmCode) (src : AlarmSource) (sub : Nat) (v : Severity) (s : State) : State :=
  handNotice kindAlarmNotice (be8 AlarmChange.notRecorded.number ++ be8 code.number ++ be8 src.kindNumber
    ++ be8 src.itemNumber ++ be8 sub ++ be8 v.code ++ List.replicate 11 0 ++ beFlag s.alarms.overflow) s

/-- A record has this code, source and subcode. -/
def AlarmRec.isTriple (r : AlarmRec) (code : AlarmCode) (src : AlarmSource) (sub : Nat) : Bool :=
  r.code == code && r.source == src && r.subcode == sub
/-- The record of a triple (R158). -/
def findAlarm (s : State) (code : AlarmCode) (src : AlarmSource) (sub : Nat) : Option AlarmRec :=
  s.alarms.table.find? (·.isTriple code src sub)
def State.setTable (s : State) (t : List AlarmRec) : State := { s with alarms := { s.alarms with table := t } }
/-- The records but that of a triple. -/
def dropAlarm (t : List AlarmRec) (code : AlarmCode) (src : AlarmSource) (sub : Nat) : List AlarmRec :=
  t.filter (fun r => !r.isTriple code src sub)
/-- The records with that of a triple changed. -/
def mapAlarm (t : List AlarmRec) (code : AlarmCode) (src : AlarmSource) (sub : Nat) (f : AlarmRec → AlarmRec) :
    List AlarmRec := t.map (fun r => if r.isTriple code src sub then f r else r)

/-- A raise of an existing record (R159). -/
def AlarmRec.raised (r : AlarmRec) (v : Severity) (cfc : FrameCount) : AlarmRec :=
  { r with raiseCount := min 255 (r.raiseCount + 1), active := true, acknowledged := false, severity := v, lastChange := cfc }
/-- The record that a raise makes (R159). -/
def AlarmRec.fresh (code : AlarmCode) (src : AlarmSource) (sub : Nat) (v : Severity) (cfc : FrameCount) : AlarmRec :=
  ⟨code, src, sub, v, true, false, 1, cfc, cfc⟩

/-- The record to evict for a raise of severity `v` (R160): the oldest CLEARED record, else the oldest of the lowest
severity present where `v` is strictly higher. -/
def victim (t : List AlarmRec) (v : Severity) : Option AlarmRec :=
  match t.find? (fun r => !r.active) with
  | some r => some r
  | none =>
    match t.find? (fun r => t.all (fun q => Severity.rank r.severity ≤ Severity.rank q.severity)) with
    | some r => if Severity.rank r.severity < Severity.rank v then some r else none
    | none => none

/-- The table part of a raise (R159, R160): the record as it stands after the raise, with an EVICTED notice where it
made room; none where the raise is not recorded, with the overflow flag set. -/
def raiseRecord (code : AlarmCode) (src : AlarmSource) (sub : Nat) (v : Severity) (s : State) :
    Option AlarmRec × State :=
  match findAlarm s code src sub with
  | some r =>
    (some (r.raised v s.tb.cfc), s.setTable (mapAlarm s.alarms.table code src sub (·.raised v s.tb.cfc)))
  | none =>
    let fresh := AlarmRec.fresh code src sub v s.tb.cfc
    if s.alarms.table.length < Config.alarmPlaces then
      (some fresh, s.setTable (s.alarms.table ++ [fresh]))
    else match victim s.alarms.table v with
      | some e =>
        (some fresh, alarmNotice .evicted e
          (s.setTable (dropAlarm s.alarms.table e.code e.source e.subcode ++ [fresh])))
      | none => (none, { s with alarms := { s.alarms with overflow := true } })

/-- A raise of a condition alarm (R157, R159, R165). -/
def raiseAlarm (code : AlarmCode) (src : AlarmSource) (sub : Nat) (v : Severity) (s : State) : State :=
  match raiseRecord code src sub v s with
  | (some r, s) => alarmNotice .raised r s
  | (none, s) => notRecordedNotice code src sub v s

/-- A raise of an event alarm: a raise and a clear of the record in one operation (R157, R165). -/
def raiseEvent (code : AlarmCode) (src : AlarmSource) (sub : Nat) (v : Severity) (s : State) : State :=
  match raiseRecord code src sub v s with
  | (some r, s) =>
    alarmNotice .event { r with active := false }
      (s.setTable (mapAlarm s.alarms.table code src sub (fun r => { r with active := false })))
  | (none, s) => notRecordedNotice code src sub v s

/-- A clear (R161). -/
def clearAlarm (code : AlarmCode) (src : AlarmSource) (sub : Nat) (s : State) : State :=
  match findAlarm s code src sub with
  | none => s
  | some r =>
    if r.active then
      let r' : AlarmRec := { r with active := false, lastChange := s.tb.cfc }
      if r.acknowledged then
        alarmNotice .clearRemoved r' (s.setTable (dropAlarm s.alarms.table code src sub))
      else
        alarmNotice .cleared r' (s.setTable (mapAlarm s.alarms.table code src sub (fun _ => r')))
    else s

end Sys2Proof.Machine
end

