-- ==== Sys2Proof/Machine/Gates.lean ====
section
/-! DEFINITION. The gates of the slots (R145 to R149): what an advance does to them, a drop, and a step's share. -/

namespace Sys2Proof.Machine

/-- One position of an advance: the slot coordinate becomes `v`. The guard hold falls by one; an occurrence that ends at
`v` drops TXG, makes the approached window absent and sets the guard hold to its guard at least (R146, R147); an
occurrence whose leading guard begins at `v` is approached; TXG rises at the start of the approached occurrence when
every transmit condition holds (R147). An advance by 2 counts as carried to each of its two positions, also to a guard of one
position that it passes over, the end of any occurrence makes the approached window absent, and an occurrence in which TXG has
dropped is approached again where a jump has moved the position before its guard. DESIGN CHOICE (log 36). -/
def gateUnit (occs : List Placed) (may : Bool) (v : Nat) (g : Gate) : Gate :=
  let g : Gate := { g with guardHold := g.guardHold - 1 }
  let g : Gate := match occs.find? (fun o => o.stop == v) with
    | some o => ⟨false, none, max g.guardHold o.guardTime⟩
    | none => g
  let g : Gate := match occs.find? (fun o => o.start == v + o.guardTime) with
    | some o => { g with approached := some o.occ }
    | none => g
  match occs.find? (fun o => o.start == v) with
  | some o => if g.approached = some o.occ ∧ may = true then { g with txg := true } else g
  | none => g

/-- A position takes its place in a rising list without repeats. -/
def insertPosition (x : Nat) : List Nat → List Nat
  | [] => [x]
  | y :: r => if x < y then x :: y :: r else if x = y then y :: r else y :: insertPosition x r
/-- The positions at which an occurrence acts on a gate: where its leading guard begins, its start and its end. -/
def Placed.positions (o : Placed) : List Nat :=
  (if o.guardTime ≤ o.start then [o.start - o.guardTime] else []) ++ [o.start, o.stop]
/-- The positions past `u`, up to `v`, at which an occurrence acts on a gate, rising. -/
def gatePositions (occs : List Placed) (u v : Nat) : List Nat :=
  ((occs.flatMap Placed.positions).filter fun x => u < x && x ≤ v).foldr insertPosition []
/-- An advance from the slot coordinate `u` to `last` through a rising list of positions: between them the guard hold only
falls. Laws/Gates.lean proves it equal to `gateUnit` at each position in turn. -/
def gateThrough (occs : List Placed) (may : Bool) (last : Nat) : List Nat → Nat → Gate → Gate
  | [], u, g => { g with guardHold := g.guardHold - (last - u) }
  | v :: r, u, g =>
    gateThrough occs may last r v (gateUnit occs may v { g with guardHold := g.guardHold - (v - u - 1) })
/-- `k` positions of an advance from the slot coordinate `u`. -/
def gateRun (occs : List Placed) (may : Bool) (k u : Nat) (g : Gate) : Gate :=
  gateThrough occs may (u + k) (gatePositions occs u (u + k)) u g

/-- The gate of a slot after an advance by `d` within the present cabinet frame: an ALIGNED slot's position moves; any
other slot has a guard hold that falls (R146). -/
def gateAfter (d : Nat) (n : SlotId) (s : State) : Gate :=
  if aligned s n then gateRun (occurrences s) (mayTransmit s n) d (slotCoord s n) s.gates.slots[n]
  else { s.gates.slots[n] with guardHold := s.gates.slots[n].guardHold - d }
/-- An advance by `d` at every gate. -/
def moveGates (d : Nat) (s : State) : State :=
  eachSlot (fun n s => s.setGate n (gateAfter d n s)) allSlots s

/-- The occurrence that a slot approached, on the line of positions. -/
def approachedPlace (s : State) (n : SlotId) : Option Placed :=
  match s.gates.slots[n].approached with
  | some o => (occurrences s).find? (fun p => p.occ == o)
  | none => none

/-- A drop of TXG before the end of its window (R148): the guard hold takes the window's end plus G less the slot position
where that is larger (R146), and the approached window becomes absent. -/
def dropTx (n : SlotId) (s : State) : State :=
  let g := s.gates.slots[n]
  if g.txg then
    let hold := match approachedPlace s n with
      | some o => max g.guardHold (o.stop + o.guardTime - slotCoord s n)
      | none => g.guardHold
    s.setGate n ⟨false, none, hold⟩
  else s

/-- A slot whose TXG is on drops it when a transmit condition no longer holds (R148). -/
def gateFollow (n : SlotId) (s : State) : State := if mayTransmit s n then s else dropTx n s
/-- Every slot's TXG follows its conditions (R148). -/
def gatesFollow (s : State) : State := eachSlot gateFollow allSlots s

/-- At a teardown and at a move of the timing record to OFF, both gates are off, the guard hold becomes 0 and the
approached window absent (R148). -/
def gateOff (n : SlotId) (s : State) : State := s.setGate n Gate.reset

/-- The Gate Generator's share of a step (R149), before the position moves: the settle countdown becomes 2, every TXG that
is on drops, and every approached window becomes absent. -/
def stepGates (s : State) : State :=
  let s := eachSlot dropTx allSlots { s with gates := { s.gates with settle := 2 } }
  eachSlot (fun n s => s.setGate n { s.gates.slots[n] with approached := none }) allSlots s

/-- The maintenance inhibit follows the inputs with action MAINTENANCE (R150). -/
def followMaintenance (s : State) : State :=
  gatesFollow { s with gates := { s.gates with maintenance := actionActive s .maintenance } }

/-- The jump of an ALIGNED slot from its present C to another at a frame boundary: a TXG that is on stays on when the
new position lies in the same occurrence, and drops otherwise, from the old position (R148). A position that the jump moves
back before the occurrence's guard approaches it again. DESIGN CHOICE (log 36). -/
def jumpGate (n : SlotId) (comp : Nat) (s : State) : State :=
  if s.gates.slots[n].txg then
    match approachedPlace s n with
    | some o => if o.inside (s.tb.p + comp) then s else dropTx n s
    | none => dropTx n s
  else s

end Sys2Proof.Machine
end

