-- ==== Sys2Proof/Machine/SlotTiming.lean ====
section
/-! DEFINITION. The Slot Timing Unit (R125 to R136): measurements, their attempts, the computation of D and C, and what the
slot events and the timebase's events do to a timing record. -/

namespace Sys2Proof.Machine

/-! ### The computation of D and C (R130) -/

def insertSorted (x : Nat) : List Nat → List Nat
  | [] => [x]
  | y :: r => if x ≤ y then x :: y :: r else y :: insertSorted x r
def sortNat : List Nat → List Nat
  | [] => []
  | x :: r => insertSorted x (sortNat r)

/-- M, n and the sum of the kept values; none when fewer than 5 are kept (R130, steps 1 to 4). -/
def medianData (accepted : List Nat) : Option MedianData :=
  let l := sortNat accepted
  let m := (l.getD 3 0 + l.getD 4 0) / 2
  let kept := l.filter (fun v => m ≤ v + 8 && v ≤ m + 8)
  if kept.length < 5 then none else some ⟨m, kept.length, kept.sum⟩
/-- D of a computation and an asymmetry correction (R130, step 5). -/
def delayOf (m : MedianData) (asym : Int) : Nat :=
  (clampInt 0 4096 (((m.sum + m.kept) / (2 * m.kept) : Nat) + asym)).toNat
/-- C of D, K and T (R130). -/
def compensation (d k : Nat) (trim : Int) : Nat := (clampInt 0 65535 ((d : Int) + k + trim)).toNat

/-- K of a slot's card. -/
def internalDelay (s : State) (n : SlotId) : Nat := ((cardOf s n).map (·.internalDelay)).getD 0
/-- U of a slot's card. -/
def turnaround (s : State) (n : SlotId) : Nat := ((cardOf s n).map (·.turnaround)).getD 0
/-- The asymmetry correction of a slot's card, 0 where it has none. -/
def asymmetryOf (s : State) (n : SlotId) : Int := ((cardOf s n).bind (·.asymmetry)).getD 0

/-! ### Records -/

def Attempt.fresh (failed : Nat) : Attempt := ⟨failed, false, 0, [], 0, 0, none⟩
/-- Staged values of origin RESULT are held. -/
def resultStaged (r : TimingRec) : Bool := (r.staged.bind (·.result)).isSome
def LastAttempt.of (o : AttemptOutcome) (a : Attempt) : LastAttempt := ⟨o, a.sent, a.accepted.length, a.lost, a.outOfRange⟩

/-- A move to OFF (R134): every optional item becomes absent, FP goes low, DELAY_UNSTABLE is cleared where raised, T is
kept. The gates of the slot go with it (R148). -/
def timingOff (n : SlotId) (s : State) : State :=
  let r := s.timing[n]
  let s := if r.unstableRaised then clearAlarm .delayUnstable (.slot n) 0 s else s
  gateOff n (s.setTiming n { TimingRec.reset with trim := r.trim })

/-- A measurement starts (R126): a slot in OFF or UNSTABLE moves to MEASURING, an ALIGNED slot stays ALIGNED. -/
def startMeasurement (n : SlotId) (s : State) : State :=
  let r := s.timing[n]
  s.setTiming n { r with
    measuring := some (Attempt.fresh 0)
    state := match r.state with
      | .aligned => .aligned
      | .off | .measuring | .unstable => .measuring }

/-- The last attempt after the end of a measurement (R129): an attempt in progress ends ABORTED, with its counts. -/
def lastAfterEnd (r : TimingRec) : Option LastAttempt :=
  match r.measuring with
  | some a => if a.running && !resultStaged r then some (LastAttempt.of .aborted a) else r.lastAttempt
  | none => r.lastAttempt
/-- Drain start (R134): a measurement in flight is ended, without DELAY_UNSTABLE, and its attempt in progress is aborted
(R129). -/
def timingDrainStart (n : SlotId) (s : State) : State :=
  let r := s.timing[n]
  if r.measuring.isSome then
    s.setTiming n { r with
      measuring := none
      staged := none
      lastAttempt := lastAfterEnd r
      state := match r.state with
        | .aligned => .aligned
        | .off => .off
        | .measuring | .unstable => .unstable }
  else s

/-- A step aborts the attempt in progress (R133). -/
def abortAttempt (n : SlotId) (s : State) : State :=
  let r := s.timing[n]
  match r.measuring with
  | some a =>
    if a.running && !resultStaged r then
      s.setTiming n { r with
        measuring := some (Attempt.fresh a.failed)
        lastAttempt := some (LastAttempt.of .aborted a)
        probeDue := false
        fp := match r.fp with
          | .probe _ => .low
          | .low => .low
          | .pulse t => .pulse t }
    else s
  | none => s

/-- A failed attempt (R129), and the third one (R132). -/
def failAttempt (n : SlotId) (a : Attempt) (s : State) : State :=
  let r := { s.timing[n] with lastAttempt := some (LastAttempt.of .failed a) }
  if a.failed + 1 < 3 then s.setTiming n { r with measuring := some (Attempt.fresh (a.failed + 1)) }
  else
    raiseAlarm .delayUnstable (.slot n) 0 .major
      (s.setTiming n { r with
        measuring := none
        unstableRaised := true
        state := match r.state with
          | .measuring => .unstable
          | .off => .off
          | .aligned => .aligned
          | .unstable => .unstable })

/-- After a probe that was lost or out of range: the attempt fails when it can no longer reach 8 values (R129). -/
def checkCount (n : SlotId) (a : Attempt) (s : State) : State :=
  if a.accepted.length + (16 - a.sent) < 8 then failAttempt n a s
  else s.setTiming n { s.timing[n] with measuring := some a }

/-- After an accepted value: the eighth makes the computation, which stages a result or fails the attempt (R129 to R131). -/
def checkAccepted (n : SlotId) (a : Attempt) (s : State) : State :=
  if a.accepted.length < 8 then s.setTiming n { s.timing[n] with measuring := some a }
  else match medianData a.accepted with
    | none => failAttempt n a s
    | some m =>
      let d := delayOf m (asymmetryOf s n)
      s.setTiming n { s.timing[n] with
        measuring := some { a with running := false }
        staged := some ⟨d, compensation d (internalDelay s n) s.timing[n].trim, some m⟩
        lastAttempt := some (LastAttempt.of .succeeded a) }

/-- A rising edge of a slot's TE filter that serves no reference (R128): inside an open probe window it is the echo. -/
def echo (n : SlotId) (s : State) : State :=
  match s.timing[n].measuring with
  | some a =>
    match a.window with
    | some _ =>
      let p1 := secondPosition s.tb % Config.frameTicks
      let raw := (p1 + Config.frameTicks - Config.probePosition) % Config.frameTicks
      let trip : Int := (raw : Int) - filterLatency s.tb - turnaround s n
      let a := { a with window := none }
      if 0 ≤ trip ∧ trip ≤ 4096 then checkAccepted n { a with accepted := a.accepted ++ [trip.toNat] } s
      else checkCount n { a with outOfRange := a.outOfRange + 1 } s
    | none => s
  | none => s

/-- The probe window's 4,096th period passes without an echo: the probe is lost (R128). -/
def probeLost (n : SlotId) (s : State) : State :=
  match s.timing[n].measuring with
  | some a =>
    match a.window with
    | some _ => checkCount n { a with window := none, lost := a.lost + 1 } s
    | none => s
  | none => s

/-! ### The frame boundary (R126, R127, R131, R139) -/

/-- Staged values are applied (R131), or a trim's (R139), with the jump of the slot position that it is (R145). -/
def applyStaged (n : SlotId) (s : State) : State :=
  match s.timing[n].staged with
  | none => s
  | some v =>
    let s := jumpGate n v.comp s
    let r := { s.timing[n] with values := some (v.delay, v.comp), staged := none }
    match v.result with
    | none => s.setTiming n r
    | some m =>
      let s' := s.setTiming n { r with
        state := .aligned
        measuring := none
        lastResult := some ⟨m, v.delay, v.comp, s.tb.cfc⟩
        unstableRaised := false }
      if r.unstableRaised then clearAlarm .delayUnstable (.slot n) 0 s' else s'

/-- The frame that begins is a probe frame while an attempt is in progress; an attempt that waits begins (R126, R127). -/
def boundaryProbe (n : SlotId) (s : State) : State :=
  let r := s.timing[n]
  match r.measuring with
  | some a =>
    if resultStaged r ∨ 16 ≤ a.sent then s.setTiming n { r with probeFrame := false, probeDue := false }
    else s.setTiming n { r with
      measuring := some { a with running := true, sent := a.sent + 1 }
      probeFrame := true
      probeDue := true }
  | none => s.setTiming n { r with probeFrame := false, probeDue := false }

/-- The pulse hold is cleared at a boundary unless a step is still pending in ACQUIRING (R136). -/
def boundaryPulseHold (s : State) : State :=
  { s with pulseHold := s.pulseHold && (match s.tb.quality with
      | .acquiring _ => s.tb.stepPending
      | .freerun | .locked | .holdover => false) }

/-- A slot sends its frame pulse in the present frame (R135). -/
def sendsPulse (s : State) (n : SlotId) : Bool :=
  aligned s n && !s.pulseHold && !s.timing[n].probeFrame
/-- A pulse with Q = 0 starts at the boundary itself (R135). It takes the place of an earlier frame's pulse that still runs, and
the two show as one level with one end. DESIGN CHOICE (log 38). -/
def boundaryPulse (n : SlotId) (s : State) : State :=
  if sendsPulse s n && compOf s n == 0 then s.setTiming n { s.timing[n] with fp := .pulse s.tb.osc } else s

/-- The position at which a slot's probe waits to start (R127). -/
def probeTarget (s : State) (n : SlotId) : Option Nat :=
  match s.timing[n].measuring with
  | some a =>
    if s.timing[n].probeDue && a.running && s.tb.p < Config.probePosition then some Config.probePosition else none
  | none => none
/-- A probe starts (R127). -/
def startProbe (n : SlotId) (period : Nat) (s : State) : State :=
  match s.timing[n].measuring with
  | some a =>
    s.setTiming n { s.timing[n] with
      probeDue := false
      fp := .probe period
      measuring := some { a with window := some period } }
  | none => s
/-- The position at which a slot's frame pulse waits to start in this frame (R135). -/
def pulseTarget (s : State) (n : SlotId) : Option Nat :=
  if sendsPulse s n && s.tb.p < pulsePosition (compOf s n) then some (pulsePosition (compOf s n)) else none

end Sys2Proof.Machine
end

