-- ==== Sys2Proof/Machine/Timebase.lean ====
section
/-! DEFINITION. The Timebase Unit (R105, R108 to R121): the arithmetic of advances, qualification and selection of references,
the quality machine, the step and the steering computation. -/

namespace Sys2Proof.Machine

/-! ### Advances (R105) -/

/-- The position's advance in `k` oscillator periods: one for each period, and one more or less for each carry of A. -/
def advanceBy (tb : Timebase) (k : Nat) : Nat := ((k : Int) + (tb.acc + k * tb.steer) / (Config.wrap32 : Int)).toNat
/-- A after `k` oscillator periods. -/
def accAfter (tb : Timebase) (k : Nat) : Nat := ((tb.acc + k * tb.steer) % (Config.wrap32 : Int)).toNat
/-- The oscillator periods up to the advance that brings the position from `tb.p` to `target` or past it. -/
def periodsTo (tb : Timebase) (target : Nat) : Nat :=
  let need : Int := ((target : Int) - tb.p) * Config.wrap32 - tb.acc
  let rate : Int := Config.wrap32 + tb.steer
  ((need + rate - 1) / rate).toNat

/-! ### Errors and steering (R108, R119 to R121) -/

/-- The delay that is taken off a source's capture: the cable delay of EXT, D of a slot (R108). -/
def sourceDelay (s : State) : Ref → Nat
  | .ext => s.tb.cableDelay
  | .slot n => ((s.timing[n].values).map (·.1)).getD 0
/-- The corrected position of a rising edge taken now (R108). -/
def correctedPosition (s : State) (r : Ref) : Int :=
  let c : Int := (secondPosition s.tb : Int) - filterLatency s.tb - sourceDelay s r
  if c < 0 then c + Config.secondTicks else c
/-- A position difference brought into half a second either way (R119). -/
def wrapError (e : Int) : Int :=
  if 61439999 < e then e - Config.secondTicks else if e < -61440000 then e + Config.secondTicks else e
/-- The error E of an edge of a source taken now (R119). -/
def edgeError (s : State) (r : Ref) : Int := wrapError (correctedPosition s r - s.tb.refOffset)

/-- The holdover value of an integral (R121). -/
def holdoverValue (i : Int) : Int := clampInt (-Config.steerMax) Config.steerMax (2 * i)
/-- The integral after an error (R120, step 1). -/
def integralAfter (i e : Int) : Int := clampInt (-Config.integralMax) Config.integralMax (i - e)
/-- The steering word of an error and a clamped integral (R120, steps 2 to 4). -/
def steerAfter (i e : Int) : Int := clampInt (-Config.steerMax) Config.steerMax (-16 * e + 2 * i)
/-- The steering computation (R120): a jump leaves I and S unchanged. -/
def steerEdge (e : Int) (tb : Timebase) : Timebase :=
  let tb := { tb with lastError := some (e, tb.cfc) }
  if e.natAbs ≤ 1200 then
    { tb with integral := integralAfter tb.integral e, steer := steerAfter (integralAfter tb.integral e) e }
  else tb

/-! ### Quality (R113 to R117) -/

/-- A change of quality (R116, R117): entry to HOLDOVER takes the holdover value, the quality alarm left is cleared, then the one
entered is raised, and the gates follow; the TIMING notice comes last. The order of the notices is the model's. DESIGN CHOICE
(log 9). -/
def setQuality (q : Quality) (s : State) : State :=
  let old := s.tb.quality
  let s := s.setTb { s.tb with
    quality := q
    steer := if q = .holdover ∧ old ≠ .holdover then holdoverValue s.tb.integral else s.tb.steer }
  let s := if old = .holdover ∧ q ≠ .holdover then clearAlarm .timingHoldover .part 0 s else s
  let s := if old = .freerun ∧ q ≠ .freerun then clearAlarm .timingFreerun .part 0 s else s
  let s := if q = .holdover ∧ old ≠ .holdover then raiseAlarm .timingHoldover .part 0 .major s else s
  let s := if q = .freerun ∧ old ≠ .freerun ∧ s.tb.everSelected = true then
    raiseAlarm .timingFreerun .part 0 .critical s else s
  gatesFollow s

/-- Step pending is set, which sets the pulse hold (R136); the good and jump counts become 0. -/
def pendStep (s : State) : State :=
  { s.setTb { s.tb with stepPending := true, goodCount := 0, jumpCount := 0 } with pulseHold := true }
/-- The quality moves to ACQUIRING with a step pending (R113 to R115). -/
def toAcquiring (o : QOrigin) (s : State) : State :=
  setQuality (.acquiring o) (pendStep (s.setTb { s.tb with switchPending := false }))

/-- A TIMING notice where the quality or the selection has changed since `before` (R117). -/
def noticeTiming (before : Timebase) (s : State) : State :=
  if before.quality.number = s.tb.quality.number ∧ before.selected = s.tb.selected then s else timingNotice s

/-- A change of selection (R112 to R115). A HOLDOVER entered from ACQUIRING with origin HELD whose elapsed time is already past
a lowered limit lasts until the next second or TIMING_SET. DESIGN CHOICE (log 34). -/
def changeSelection (choice : Option Ref) (s : State) : State :=
  let s := s.setTb { s.tb with selected := choice, everSelected := s.tb.everSelected || choice.isSome }
  match choice, s.tb.quality with
  | some _, .freerun => toAcquiring .free s
  | some _, .holdover => toAcquiring .held s
  | some _, .acquiring _ => pendStep s
  | some _, .locked => s.setTb { s.tb with switchPending := true }
  | none, .acquiring .held => setQuality .holdover s
  | none, .acquiring .free => setQuality .freerun s
  | none, .locked => setQuality .holdover (s.setTb { s.tb with switchPending := false })
  | none, .freerun => s
  | none, .holdover => s

/-- The first QUALIFIED source in list order. -/
def firstQualified (tb : Timebase) : Option Ref := (tb.refs.find? (·.qualified)).map (·.src)
/-- The reference that the qualifications and the revertive setting choose (R112). -/
def chosenRef (tb : Timebase) : Option Ref :=
  match tb.selected with
  | some r => if tb.revertive = false ∧ tb.refs.any (fun q => q.src == r && q.qualified) = true then some r else firstQualified tb
  | none => firstQualified tb
/-- The choice is made again (R112). -/
def reselect (s : State) : State :=
  if chosenRef s.tb = s.tb.selected then s else changeSelection (chosenRef s.tb) s

/-! ### Qualification (R109 to R111) -/

/-- The record of a source on the list. -/
def refRec (tb : Timebase) (r : Ref) : Option RefRec := tb.refs.find? (·.src == r)
def setRefRec (tb : Timebase) (q : RefRec) : Timebase :=
  { tb with refs := tb.refs.map (fun x => if x.src = q.src then q else x) }
/-- UNQUALIFIED with an empty history (R110). -/
def RefRec.fresh (r : Ref) : RefRec := ⟨r, false, none, 0, 0⟩
/-- The loss of a source (R111), its record as given. -/
def loseRef (q : RefRec) (s : State) : State :=
  reselect (raiseAlarm .referenceLost (.ref q.src) 0 .minor (s.setTb (setRefRec s.tb q)))
/-- A slot on the list that is not eligible has an UNQUALIFIED record with an empty history; where it was QUALIFIED this
is a loss (R109). Its TIMING notice is handed here, so that a cutoff hands one at each slot's teardown, inside that slot's
group of notices. DESIGN CHOICE (log 32). -/
def refCheck (n : SlotId) (s : State) : State :=
  match refRec s.tb (.slot n) with
  | none => s
  | some q =>
    if eligible s n then s
    else if q.qualified then noticeTiming s.tb (loseRef (RefRec.fresh (.slot n)) s)
    else s.setTb (setRefRec s.tb (RefRec.fresh (.slot n)))

/-! ### The step (R118) -/

/-- The frame count after a step to a second phase: the fewest frames forward, 0 to 99, to a count of that phase. -/
def stepCfc (cfc : FrameCount) (phase : Nat) : FrameCount :=
  match (List.range 100).find? (fun k => (cfc + BitVec.ofNat 32 k).toNat % 100 == phase) with
  | some k => cfc + BitVec.ofNat 32 k
  | none => Config.stepAcrossWrap cfc phase
/-- The target position of a step by an error (R118). -/
def stepTarget (tb : Timebase) (e : Int) : Nat := (((secondPosition tb : Int) - e) % (Config.secondTicks : Int)).toNat
/-- The position part of a step (R118): A, S and I keep their values. -/
def stepPosition (e : Int) (tb : Timebase) : Timebase :=
  { tb with
    p := stepTarget tb e % Config.frameTicks
    cfc := stepCfc tb.cfc (stepTarget tb e / Config.frameTicks)
    goodCount := 0
    jumpCount := 0
    stepPending := false }
/-- A step: the Gate Generator's share (R149), the Slot Timing Unit's (R133), the position, and PHASE_STEP. The raise comes
after the move of CFC, so the record's frames are the count that the step has reached. DESIGN CHOICE (log 40). -/
def doStep (e : Int) (s : State) : State :=
  let s := eachSlot abortAttempt allSlots (stepGates s)
  raiseEvent .phaseStep .part 0 .warning (s.setTb (stepPosition e s.tb))

/-! ### The quality machine's edges (R114, R115) -/

/-- An edge put to the steering computation in ACQUIRING after the step (R114). -/
def acquireEdge (e : Int) (s : State) : State :=
  let s := s.setTb (steerEdge e s.tb)
  if e.natAbs ≤ 40 then
    if s.tb.goodCount + 1 < 16 then s.setTb { s.tb with goodCount := s.tb.goodCount + 1, jumpCount := 0 }
    else setQuality .locked (s.setTb { s.tb with
      goodCount := 0
      jumpCount := 0
      holdElapsed := 0 })
  else if e.natAbs ≤ 1200 then s.setTb { s.tb with goodCount := 0, jumpCount := 0 }
  else if s.tb.jumpCount + 1 < 3 then s.setTb { s.tb with goodCount := 0, jumpCount := s.tb.jumpCount + 1 }
  else pendStep s
/-- An edge put to the steering computation in LOCKED (R115). -/
def lockedEdge (e : Int) (s : State) : State :=
  let s := s.setTb (steerEdge e s.tb)
  if e.natAbs ≤ 1200 then s.setTb { s.tb with jumpCount := 0 }
  else if s.tb.jumpCount + 1 < 3 then s.setTb { s.tb with jumpCount := s.tb.jumpCount + 1 }
  else toAcquiring .held s
/-- A plausible edge of the selected source, with its error, at the quality machine (R114, R115). -/
def qualityEdge (e : Int) (s : State) : State :=
  match s.tb.quality with
  | .acquiring _ => if s.tb.stepPending then doStep e s else acquireEdge e s
  | .locked =>
    if s.tb.switchPending then
      if e.natAbs ≤ 40 then lockedEdge e (s.setTb { s.tb with switchPending := false })
      else toAcquiring .held s
    else lockedEdge e s
  | .freerun => s
  | .holdover => s

/-- An edge is plausible: 122,880,000 periods, give or take 16,384, have passed since the last edge (R110). -/
def plausibleGap (osc last : Nat) : Bool := 122863616 ≤ osc - last && osc - last ≤ 122896384

/-- A rising edge of a source on the list acts on its record (R111). -/
def refEdge (r : Ref) (s : State) : State :=
  match refRec s.tb r with
  | none => s
  | some q =>
    let now := s.tb.osc
    if q.qualified then
      if q.lastEdge.any (plausibleGap now) then
        let s := s.setTb (setRefRec s.tb { q with lastEdge := some now, implausible := 0 })
        if s.tb.selected = some r then qualityEdge (edgeError s r) s else s
      else if q.implausible + 1 < 2 then s.setTb (setRefRec s.tb { q with implausible := q.implausible + 1 })
      else loseRef ⟨r, false, some now, 0, 0⟩ s
    else match q.lastEdge with
      | none => s.setTb (setRefRec s.tb { q with lastEdge := some now, plausible := 0 })
      | some last =>
        if plausibleGap now last then
          if q.plausible + 1 < 3 then
            s.setTb (setRefRec s.tb { q with lastEdge := some now, plausible := q.plausible + 1 })
          else
            reselect (clearAlarm .referenceLost (.ref r) 0
              (s.setTb (setRefRec s.tb ⟨r, true, some now, 0, 0⟩)))
        else s.setTb (setRefRec s.tb { q with lastEdge := some now, plausible := 0 })

/-- The silence limit of a source expires (R111). -/
def refSilence (r : Ref) (s : State) : State :=
  match refRec s.tb r with
  | none => s
  | some q =>
    match q.lastEdge with
    | none => s
    | some _ =>
      if q.qualified then loseRef (RefRec.fresh r) s else s.setTb (setRefRec s.tb (RefRec.fresh r))

/-! ### Edge filters (R107) -/

def edgeFilter (tb : Timebase) : Ref → EdgeFilter
  | .ext => tb.extFilter
  | .slot n => tb.teFilters[n]
def setEdgeFilter (tb : Timebase) (f : EdgeFilter) : Ref → Timebase
  | .ext => { tb with extFilter := f }
  | .slot n => { tb with teFilters := tb.teFilters.set n f }

/-- A rising edge is handed on (R107): to the Timebase Unit where its source can serve, otherwise a TE edge goes to the
Slot Timing Unit and an EXT edge to no block. -/
def risingEdge (r : Ref) (s : State) : State :=
  if canServe s r then noticeTiming s.tb (refEdge r s)
  else match r with
    | .ext => s
    | .slot n => echo n s

/-- A filter takes an edge: its level takes the level that the input shows, its count becomes 0, and a rising edge is handed
on (R107). -/
def takeEdge (r : Ref) (s : State) : State :=
  let f := edgeFilter s.tb r
  let s := s.setTb (setEdgeFilter s.tb ⟨!f.level, 0, !f.level⟩ r)
  if f.level then s else risingEdge r s

/-- One sample of an edge input (R107). -/
def sampleEdge (r : Ref) (s : State) : State :=
  let f := edgeFilter s.tb r
  if f.raw = f.level then s.setTb (setEdgeFilter s.tb { f with count := 0 } r)
  else if f.count + 1 < 5 then s.setTb (setEdgeFilter s.tb { f with count := f.count + 1 } r)
  else takeEdge r s
/-- One sample of each edge input, in the order EXT, slot 1 to slot 12, at a period on the sample grid (R107). -/
def sampleEdges (s : State) : State :=
  if s.tb.osc % s.tb.samplePeriod = 0 then
    eachSlot (fun n s => sampleEdge (.slot n) s) allSlots (sampleEdge .ext s)
  else s

/-- An edge input shows a level from now on. -/
def showEdge (r : Ref) (level : Bool) (s : State) : State :=
  s.setTb (setEdgeFilter s.tb { edgeFilter s.tb r with raw := level } r)
/-- The thirteen edge inputs show these levels from now on. DESIGN CHOICE (log 8). -/
def showEdges (ext : Bool) (te : BitVec 12) (s : State) : State :=
  eachSlot (fun n s => showEdge (.slot n) (te.getLsbD n.val) s) allSlots (showEdge .ext ext s)
/-- The input shows the filtered level and the count is 0, so that a sample changes nothing (R107). -/
def EdgeFilter.settled (f : EdgeFilter) : Bool := f.raw == f.level && f.count == 0
/-- Every edge filter is settled. -/
def edgesSettled (tb : Timebase) : Bool := tb.extFilter.settled && allSlots.all fun n => tb.teFilters[n].settled
/-- The oscillator periods up to the next one on the sample grid (R107). -/
def periodsToGrid (tb : Timebase) : Nat := tb.samplePeriod - tb.osc % tb.samplePeriod

/-- Each second spent in HOLDOVER (R113). -/
def holdoverTick (s : State) : State :=
  if s.tb.quality = .holdover then
    let s := s.setTb { s.tb with holdElapsed := s.tb.holdElapsed + 1 }
    if s.tb.holdoverLimit < s.tb.holdElapsed then noticeTiming s.tb (setQuality .freerun s) else s
  else s

end Sys2Proof.Machine
end

