-- ==== Sys2Proof/Machine/Buffer.lean ====
section
/-! DEFINITION. The Packet Buffer Manager (R83 to R98): release and purge of copies, credit and the grant arbiter, the output
scheduler, and storing. -/

namespace Sys2Proof.Machine

/-! ### Counters (R99) -/

def State.setCounters (s : State) (c : Counters) : State := { s with buffer := { s.buffer with counters := c } }
def countAccepted (n : SlotId) (s : State) : State :=
  let c := s.buffer.counters
  s.setCounters { c with perSlot := c.perSlot.set n { c.perSlot[n] with accepted := bump c.perSlot[n].accepted 1 } }
def countSent (n : SlotId) (s : State) : State :=
  let c := s.buffer.counters
  s.setCounters { c with perSlot := c.perSlot.set n { c.perSlot[n] with sent := bump c.perSlot[n].sent 1 } }
def countDiscardedPacket (n : SlotId) (s : State) : State :=
  let c := s.buffer.counters
  s.setCounters { c with perSlot := c.perSlot.set n { c.perSlot[n] with discarded := bump c.perSlot[n].discarded 1 } }

/-- The reasons for which a packet or a copy is discarded (R66, R89). -/
inductive Discard where
  | badPacket | creditOverrun | noRoute | retiring | classBarred | forbidden | queueLimit
  deriving DecidableEq, Repr
/-- A part-wide discard counter counts an amount (R99). -/
def countDiscards (d : Discard) (k : Nat) (s : State) : State :=
  let c := s.buffer.counters
  s.setCounters (match d with
    | .badPacket => { c with badPacket := bump c.badPacket k }
    | .creditOverrun => { c with creditOverrun := bump c.creditOverrun k }
    | .noRoute => { c with noRoute := bump c.noRoute k }
    | .retiring => { c with retiring := bump c.retiring k }
    | .classBarred => { c with classBarred := bump c.classBarred k }
    | .forbidden => { c with forbidden := bump c.forbidden k }
    | .queueLimit => { c with queueLimit := bump c.queueLimit k })

/-! ### Release and purge (R84, R96) -/

/-- A copy of a stored packet is released: its slot leaves the owed list, and with the last one the descriptor goes and its
blocks return to the pool (R84). -/
def releaseCopy (n : SlotId) (id : Nat) (b : Buffer) : Buffer :=
  match b.stored.find? (fun d => d.id == id) with
  | none => b
  | some d =>
    if d.owed.filter (· ≠ n) = [] then
      { b with stored := b.stored.filter (fun x => x.id != id), free := b.free + d.length }
    else
      { b with stored := b.stored.map (fun x => if x.id = id then { x with owed := x.owed.filter (· ≠ n) } else x) }
/-- Several copies of one port are released. -/
def releaseAll (n : SlotId) : List Copy → Buffer → Buffer
  | [], b => b
  | c :: r, b => releaseAll n r (releaseCopy n c.id b)
/-- The copies of a port, in its queues and in transmission. -/
def portCopies (p : Port) : List Copy :=
  (match p.sending with | some (_, c) => [c] | none => []) ++ p.queues.t ++ p.queues.c ++ p.queues.s ++ p.queues.b
/-- A port without copies, its deficits 0 and its turn S, unopened (R96). -/
def Port.emptied (p : Port) : Port :=
  { p with
    queues := ⟨[], [], [], []⟩
    sending := none
    sDeficit := 0
    bDeficit := 0
    turnB := false
    turnOpened := false }
/-- The copy in transmission is aborted and every queued copy released: the purge (R96). -/
def purgePort (n : SlotId) (s : State) : State :=
  let b := releaseAll n (portCopies s.buffer.ports[n]) s.buffer
  { s with buffer := { b with ports := b.ports.set n b.ports[n].emptied } }

/-! ### Credit and the grant arbiter (R85, R86) -/

def Credit.none (c : Credit) : Credit := ⟨c.limit, 0, 0⟩
/-- The reclaim: every outstanding credit of a slot returns to the pool (R96). -/
def reclaim (n : SlotId) (s : State) : State :=
  let c := s.buffer.credits[n]
  let s := { s with buffer := { s.buffer with free := s.buffer.free + slotOutstanding s.buffer n } }
  s.setCredits n ⟨c.t.none, c.c.none, c.s.none, c.b.none⟩

/-- A slot-class is eligible for a grant (R86). -/
def grantable (s : State) (k : TrafficClass) (n : SlotId) : Bool :=
  s.slots[n].state == .active
    && (perClass s.buffer.credits[n] k).outstanding < (perClass s.buffer.credits[n] k).limit
/-- The slots in ascending order from the one after `last`, wrapping (R86). -/
def rotation (last : SlotId) : List SlotId := allSlots.drop (last.val + 1) ++ allSlots.take (last.val + 1)
/-- The slot-class that the next grant goes to (R86, steps 1 and 2). -/
def nextGrant (s : State) : Option (TrafficClass × SlotId) :=
  allClasses.findSome? fun k =>
    ((rotation (perClass s.buffer.lastServed k)).find? (grantable s k)).map fun n => (k, n)
/-- A grant of one block (R86, step 3). The unsent count has no bound of its own. DESIGN CHOICE (log 33). -/
def grant (k : TrafficClass) (n : SlotId) (s : State) : State :=
  let c := perClass s.buffer.credits[n] k
  let s := s.setCredits n (setClass s.buffer.credits[n] k ⟨c.limit, c.outstanding + 1, c.unsent + 1⟩)
  { s with buffer := { s.buffer with
      free := s.buffer.free - 1
      lastServed := setClass s.buffer.lastServed k n } }
/-- The arbiter's grants, at most `fuel` of them: while the free count is more than 2 and a slot-class is eligible. -/
def grants : Nat → State → State
  | 0, s => s
  | fuel + 1, s =>
    if 2 < s.buffer.free then
      match nextGrant s with
      | some (k, n) => grants fuel (grant k n s)
      | none => s
    else s
/-- A run of the grant arbiter (R86): each grant takes a free block, so the free count bounds their number. -/
def runArbiter (s : State) : State := grants s.buffer.free s

/-- The end of a slot's traffic (R96, R97) but for the arbiter: abort, purge, partial packet, reclaim. -/
def endTraffic (n : SlotId) (s : State) : State :=
  let s := purgePort n s
  reclaim n (s.setLane n { s.lanes[n] with reception := none })

/-! ### The output scheduler (R92, R93) -/

/-- The turn passes to the other class, unopened (R93). -/
def passTurn (p : Port) : Port := { p with turnB := !p.turnB, turnOpened := false }
/-- The head copy of the class whose turn it is leaves its queue: its length is taken from the deficit; a queue that becomes
empty has its deficit set to 0 and passes the turn (R93). -/
def takeTurn (c : Copy) (rest : List Copy) (p : Port) : Port :=
  let p := if p.turnB then { p with queues := { p.queues with b := rest }, bDeficit := p.bDeficit - c.length }
    else { p with queues := { p.queues with s := rest }, sDeficit := p.sDeficit - c.length }
  if rest.isEmpty then passTurn (if p.turnB then { p with bDeficit := 0 } else { p with sDeficit := 0 }) else p
/-- The turn is opened: the class's deficit rises by its quantum (R93). -/
def openTurn (p : Port) : Port :=
  if p.turnOpened then p
  else if p.turnB then { p with bDeficit := p.bDeficit + p.bQuantum, turnOpened := true }
  else { p with sDeficit := p.sDeficit + p.sQuantum, turnOpened := true }
/-- The deficit round robin of S and B (R93), at most `fuel` turns. -/
def drrChoice : Nat → Port → Option (TrafficClass × Copy × Port)
  | 0, _ => none
  | fuel + 1, p =>
    match (if p.turnB then p.queues.b else p.queues.s) with
    | [] => drrChoice fuel (passTurn p)
    | c :: rest =>
      let p := openTurn p
      if c.length ≤ (if p.turnB then p.bDeficit else p.sDeficit) then
        some (if p.turnB then .b else .s, c, takeTurn c rest p)
      else drrChoice fuel (passTurn p)
/-- The turns that a choice can take at most: no packet is longer than 24 blocks and each opening adds one at least. -/
def drrTurns : Nat := 64
/-- The copy that a port's choice takes (R92): the head of T, else the head of C, else by deficit round robin. -/
def portChoice (p : Port) : Option (TrafficClass × Copy × Port) :=
  match p.queues.t with
  | c :: rest => some (.t, c, { p with queues := { p.queues with t := rest } })
  | [] =>
    match p.queues.c with
    | c :: rest => some (.c, c, { p with queues := { p.queues with c := rest } })
    | [] => if p.queues.s.isEmpty && p.queues.b.isEmpty then none else drrChoice drrTurns p

/-- The credit messages that carry an unsent count: one message, or where a count above 64 waits, messages of 64 and one of
the rest (R87). DESIGN CHOICE (log 33). -/
def messagesOf (k : TrafficClass) (unsent : Nat) : List CreditMessage :=
  List.replicate (unsent / 64) ⟨k, 64⟩ ++ (if unsent % 64 = 0 then [] else [⟨k, unsent % 64⟩])
/-- The credit messages of a slot, in the order T, C, S, B (R87). -/
def creditMessagesOf (c : PerClass Credit) : List CreditMessage :=
  messagesOf .t c.t.unsent ++ messagesOf .c c.c.unsent ++ messagesOf .s c.s.unsent ++ messagesOf .b c.b.unsent
/-- The unsent credit of a slot is carried to its card in credit messages, and the unsent counts become 0 (R87). -/
def sendCredits (n : SlotId) (s : State) : State :=
  let c := s.buffer.credits[n]
  { s.setCredits n ⟨{ c.t with unsent := 0 }, { c.c with unsent := 0 }, { c.s with unsent := 0 }, { c.b with unsent := 0 }⟩ with
    creditMessages := s.creditMessages.set n (creditMessagesOf c) }

/-- A scheduling choice where its conditions hold (R92): the lane is up, the slot is ACTIVE or DRAINING, no copy is in
transmission and a queue holds a copy. Credit messages that wait go before the packet (R87). -/
def schedule (n : SlotId) (s : State) : State :=
  let p := s.buffer.ports[n]
  if s.lanes[n].status = .up ∧ s.slots[n].state.inTraffic = true ∧ p.sending = none then
    match portChoice p with
    | some (k, c, p) => sendCredits n (s.setPort n { p with sending := some (k, c) })
    | none => s
  else s

/-! ### Storing (R90, R98) -/

/-- A copy joins the tail of a class queue. -/
def enqueue (k : TrafficClass) (c : Copy) (n : SlotId) (s : State) : State :=
  let p := s.buffer.ports[n]
  s.setPort n { p with queues := setClass p.queues k (perClass p.queues k ++ [c]) }
/-- The queue limit check of a copy (R90). -/
def queueAccepts (s : State) (k : TrafficClass) (len : Nat) (n : SlotId) : Bool :=
  occupancy s.buffer.ports[n] k + len ≤ perClass s.buffer.ports[n].limits k
/-- A packet is stored for its accepted copies (R90): a descriptor is made, each copy joins its queue, and each port that
is idle makes its choice, before the arbiter's run of its callers. DESIGN CHOICE (log 37). -/
def storePacket (k : TrafficClass) (len : Nat) (src : Option SlotId) (dests : List SlotId) (bytes : List Byte)
    (s : State) : State :=
  let id := s.buffer.nextId
  let s := { s with buffer := { s.buffer with
    nextId := id + 1
    stored := s.buffer.stored ++ [⟨id, len, k, src, dests, bytes⟩] } }
  eachSlot schedule dests (eachSlot (enqueue k ⟨id, len⟩) dests s)

/-- An announcement is buffered (R98): skipped for want of a free block, else one block moves to stored and the copies that
their T queues accept join them. Where none does the block stays free. -/
def bufferAnnouncement (dests : List SlotId) (bytes : List Byte) (s : State) : State :=
  if s.buffer.free = 0 then
    s.setCounters { s.buffer.counters with skipped := bump s.buffer.counters.skipped 1 }
  else
    let ok := dests.filter (queueAccepts s .t 1)
    let s := countDiscards .queueLimit (dests.length - ok.length) s
    if ok = [] then s
    else runArbiter (storePacket .t 1 none ok bytes
      { s with buffer := { s.buffer with free := s.buffer.free - 1 } })

/-- The end of a transmission at a port (R94): the copy is released and counted as sent, and the port makes its next choice,
with the credit that waits sent before its packet; the arbiter's run over the blocks released follows. DESIGN CHOICE (log 37). -/
def endTransmission (n : SlotId) (s : State) : State :=
  let p := s.buffer.ports[n]
  match p.sending with
  | none => s
  | some (_, c) =>
    let s := s.setPort n { p with sending := none }
    runArbiter (schedule n (countSent n { s with buffer := releaseCopy n c.id s.buffer }))

end Sys2Proof.Machine
end

