-- ==== Sys2Proof/Machine/Routes.lean ====
section
/-! DEFINITION. The Route Table (R64 to R80, R185, R186): entries, reservations, the lookup and the domain test, card alarm
reports, and the frame announcement. -/

namespace Sys2Proof.Machine

/-! ### Entries (R67, R69) -/

def State.setRoutes (s : State) (r : Routes) : State := { s with routes := r }
def State.setEntries (s : State) (t : List Entry) : State := { s with routes := { s.routes with table := t } }
/-- The entry at an address. -/
def findEntry (t : List Entry) (a : Nat) : Option Entry := t.find? (fun e => e.address == a)
/-- An entry takes its place by address, replacing one that stands there. -/
def putEntry (e : Entry) : List Entry → List Entry
  | [] => [e]
  | x :: r => if e.address < x.address then e :: x :: r else if e.address = x.address then e :: r else x :: putEntry e r
/-- The entry at an address is removed. -/
def dropEntry (t : List Entry) (a : Nat) : List Entry := t.filter (fun e => e.address != a)
/-- All four classes. -/
def allPermitted : PerClass Bool := ⟨true, true, true, true⟩
/-- A learned entry (R67). -/
def learnedEntry (n : SlotId) (a : Nat) : Entry := ⟨a, .slot n, .learned, allPermitted, false⟩

/-- A teardown, an identity withdrawal and a power-off completion remove a slot's learned entries and clear the serving
card flag of its provisioned entries (R69). -/
def releaseEntries (n : SlotId) (s : State) : State :=
  s.setEntries ((s.routes.table.filter fun e => !(e.origin == .learned && e.target == .slot n)).map
    fun e => if e.target = .slot n then { e with serving := false } else e)

/-- The case of an address in a reservation (R40): none for a conflict, else whether it is new. -/
def reserveCase (t : List Entry) (n : SlotId) (a : Nat) : Option Bool :=
  match findEntry t a with
  | none => some true
  | some e => if e.target = .slot n then some false else none
/-- The table after the addresses of a list are installed or merged (R40). -/
def installAll (n : SlotId) : List Nat → List Entry → List Entry
  | [], t => t
  | a :: r, t =>
    installAll n r (match findEntry t a with
      | none => putEntry (learnedEntry n a) t
      | some e => putEntry { e with serving := e.origin == .provisioned } t)
/-- The reservation of an address list, one operation (R40): ADDRESS_CONFLICT, ROUTE_TABLE_FULL or GOOD. -/
def reserve (n : SlotId) (addrs : List Nat) (s : State) : ReadOutcome × State :=
  let cases := addrs.map (reserveCase s.routes.table n)
  if cases.any (·.isNone) then (.addressConflict, s)
  else if Config.routePlaces < s.routes.table.length + (cases.filter (· == some true)).length then (.routeTableFull, s)
  else (.good, s.setEntries (installAll n addrs s.routes.table))

/-! ### Card alarm reports (R78, R79, R186) -/

/-- A card code joins a report set, or takes a new severity (R78); the set is kept ascending. -/
def putReport (c : Nat) (v : Severity) : List (Nat × Severity) → List (Nat × Severity)
  | [] => [(c, v)]
  | x :: r => if c < x.1 then (c, v) :: x :: r else if c = x.1 then (c, v) :: r else x :: putReport c v r
def State.setReports (s : State) (n : SlotId) (l : List (Nat × Severity)) : State :=
  { s with routes := { s.routes with reports := s.routes.reports.set n l } }
/-- The CARD_REPORT records of a list of codes are cleared. -/
def clearReportCodes (n : SlotId) : List (Nat × Severity) → State → State
  | [], s => s
  | (c, _) :: r, s => clearReportCodes n r (clearAlarm .cardReport (.slot n) c s)
/-- A teardown or a power-off completion clears each report of the slot's set, in ascending order of code, and empties it
(R79). The order is the model's. DESIGN CHOICE (log 32). -/
def clearReports (n : SlotId) (s : State) : State :=
  (clearReportCodes n s.routes.reports[n] s).setReports n []

/-- A card alarm report: RAISE with a severity, or CLEAR (R78). -/
inductive Report where
  | raise (code : Nat) (v : Severity)
  | clear (code : Nat)
  deriving DecidableEq, Repr
/-- The number in a byte of a block; 0 beyond it. -/
def byteAt (l : List Byte) (k : Nat) : Nat := (l.getD k 0).toNat
/-- The report in a packet to address 0 (R78, R186): class C, one block, a known kind, a card code of 1 to 255, and for
RAISE a severity. -/
def reportOf (cls : TrafficClass) (len : Nat) (block : List Byte) : Option Report :=
  if cls = .c ∧ len = 1 ∧ byteAt block 6 ≠ 0 then
    match byteAt block 5 with
    | 0 => (severityOf (byteAt block 7)).map (Report.raise (byteAt block 6))
    | 1 => some (.clear (byteAt block 6))
    | _ => none
  else none
/-- The Route Table acts on a report from a slot (R78). -/
def takeReport (n : SlotId) (r : Report) (s : State) : State :=
  match r with
  | .raise c v => raiseAlarm .cardReport (.slot n) c v (s.setReports n (putReport c v s.routes.reports[n]))
  | .clear c =>
    clearAlarm .cardReport (.slot n) c (s.setReports n (s.routes.reports[n].filter (fun x => x.1 != c)))

/-! ### The lookup (R72, R74, R75, R78) -/

/-- A lookup result (R66): a refusal of the whole packet with the number of copies refused by the domain test, the
destinations with that number, or a report taken by the endpoint. -/
inductive Lookup where
  | refused (d : Discard) (forbidden : Nat)
  | copies (dests : List SlotId) (forbidden : Nat)
  | taken (r : Report)
  deriving DecidableEq, Repr

/-- The candidates of an entry before the sender is taken out (R72, step 4). -/
def candidates (s : State) : Target → List SlotId
  | .slot m => [m]
  | .group g => s.routes.groups[g].filter (fun m => s.slots[m].state == .active)
/-- The lookup of a card address (R72). -/
def lookupAddress (s : State) (n : SlotId) (a : Nat) (cls : TrafficClass) : Lookup :=
  match findEntry s.routes.table a with
  | none => .refused .noRoute 0
  | some e =>
    match entryState s e with
    | .inactive => .refused .noRoute 0
    | .retiring => .refused .retiring 0
    | .active =>
      if perClass e.classes cls then
        let cand := (candidates s e.target).filter (· ≠ n)
        if cand = [] then .refused .noRoute 0
        else
          let pass := cand.filter (domainPass s.routes n)
          if pass = [] then .refused .forbidden cand.length else .copies pass (cand.length - pass.length)
      else .refused .classBarred 0
/-- The lookup of a broadcast (R74). -/
def lookupBroadcast (s : State) (n : SlotId) : Lookup :=
  let cand := allSlots.filter fun m => m ≠ n && s.slots[m].state == .active && domainPass s.routes n m
  if cand = [] then .refused .noRoute 0 else .copies cand 0
/-- The lookup of an arrived packet (R66). -/
def lookup (s : State) (n : SlotId) (dest : Nat) (cls : TrafficClass) (len : Nat) (block : List Byte) : Lookup :=
  if dest = 0 then
    match reportOf cls len block with
    | some r => .taken r
    | none => .refused .noRoute 0
  else if dest = 255 then lookupBroadcast s n
  else lookupAddress s n dest cls
/-- DOMAIN_VIOLATION is raised once for a packet with refused copies (R75). -/
def noteForbidden (n : SlotId) (k : Nat) (s : State) : State :=
  if k = 0 then s else raiseEvent .domainViolation (.slot n) 0 .minor (countDiscards .forbidden k s)

/-! ### The frame announcement (R80, R186) -/

/-- The destinations of an announcement (R80). -/
def announcementDests (s : State) : List SlotId :=
  allSlots.filter fun n => s.slots[n].state == .active && needsTiming s n
/-- The one block of an announcement (R186). -/
def announcementBlock (s : State) : List Byte :=
  [255, 0, 0, 1, 0] ++ frameBytes s.tb.cfc ++ be8 s.tb.quality.number ++ be8 s.gates.active.number
    ++ allSlots.flatMap (fun n => be8 s.timing[n].state.number) ++ List.replicate 41 0
/-- The blocks of a packet and its trailer (R185). -/
def withTrailer (blocks : List Byte) : List Byte := blocks ++ be32 (crc32 blocks).toNat
/-- The announcement of a frame boundary: none where no slot is a destination (R80). -/
def announce (s : State) : State :=
  if announcementDests s = [] then s
  else bufferAnnouncement (announcementDests s) (withTrailer (announcementBlock s)) s

end Sys2Proof.Machine
end

