-- ==== Sys2Proof/Machine/Identity.lean ====
section
/-! DEFINITION. The Identity Reader (R33 to R39, R42, R187, R188): the check code of a block, the fields of a record and their
checks, and the start, abort and end of a read. -/

namespace Sys2Proof.Machine

/-! ### The check code (R36, R188) -/

/-- The Hamming positions of the 64 data bits in their order: those from 3 to 71 that are not powers of two (R188). -/
def dataPositions : List Nat := (List.range 72).filter fun p => 3 ≤ p && !([4, 8, 16, 32, 64].contains p)
/-- The data bit of an index, 0 for byte 0 bit 7 (R188). -/
def dataBit (d : BitVec 64) (k : Nat) : Bool := d.getLsbD (63 - k)
/-- The exclusive-or of the positions of the data bits that are 1. -/
def positionSum (d : BitVec 64) : Nat → List Nat → Nat
  | _, [] => 0
  | k, p :: r => (if dataBit d k then p else 0) ^^^ positionSum d (k + 1) r
/-- The syndrome (R188, step 3): the check bits computed from the data against those received. -/
def syndrome (b : IdBlock) : Nat := positionSum b.data 0 dataPositions ^^^ (b.check.toNat % 128)
/-- The exclusive-or of the low `k` bits of a word. -/
def parityOf {w : Nat} (v : BitVec w) : Nat → Bool
  | 0 => false
  | k + 1 => v.getLsbD k != parityOf v k
/-- Overall parity agrees (R188, step 4). -/
def parityAgrees (b : IdBlock) : Bool := parityOf b.data 64 == parityOf b.check 8

/-- The result of decoding a block (R36). -/
inductive BlockResult where
  | clean (d : BitVec 64)
  | corrected (d : BitVec 64)
  | uncorrectable
  deriving DecidableEq, Repr

/-- The data with the bit at a Hamming position inverted where that is a data position. -/
def flipPosition (d : BitVec 64) (p : Nat) : BitVec 64 :=
  if dataPositions.contains p then d ^^^ BitVec.ofNat 64 (2 ^ (63 - dataPositions.idxOf p)) else d
/-- The decoding of a received block (R36). -/
def decodeBlock (b : IdBlock) : BlockResult :=
  if syndrome b = 0 then if parityAgrees b then .clean b.data else .corrected b.data
  else if 72 ≤ syndrome b then .uncorrectable
  else if parityAgrees b then .uncorrectable
  else .corrected (flipPosition b.data (syndrome b))
/-- The decoding of a transfer: a memory that does not answer, or a line error, is uncorrectable (R35). -/
def decodeAnswer : Option IdBlock → BlockResult
  | some b => decodeBlock b
  | none => .uncorrectable

/-! ### The fields of a record (R187) -/

/-- The eight bytes of a block's data. -/
def blockBytes (d : BitVec 64) : List Byte := [7, 6, 5, 4, 3, 2, 1, 0].map fun k => d.extractLsb' (8 * k) 8
/-- The bytes of gathered blocks. -/
def recordBytes (blocks : List (BitVec 64)) : List Byte := blocks.flatMap blockBytes
/-- A two-byte value at a place. -/
def wordAt (l : List Byte) (k : Nat) : Nat := byteAt l k * 256 + byteAt l (k + 1)

def fVersion (l : List Byte) : Nat := byteAt l 0 / 16
def fBlockCount (l : List Byte) : Nat := byteAt l 0 % 16
def fFlags (l : List Byte) : Nat := byteAt l 2
def fNeedsTiming (l : List Byte) : Bool := fFlags l % 2 == 1
def fTransmitter (l : List Byte) : Bool := fFlags l / 2 % 2 == 1
def fHasSuggestion (l : List Byte) : Bool := fFlags l / 4 % 2 == 1
def fHasAsymmetry (l : List Byte) : Bool := fFlags l / 8 % 2 == 1
def fAddressCount (l : List Byte) : Nat := byteAt l 3
/-- The optional bytes of the variable part. -/
def fOptional (l : List Byte) : Nat := (if fHasSuggestion l then 1 else 0) + (if fHasAsymmetry l then 2 else 0)
/-- The required block count (section 2.1). -/
def fRequired (l : List Byte) : Nat := 3 + (fAddressCount l + fOptional l + 7) / 8
def fSerial (l : List Byte) : List Byte := (l.drop 8).take 12
def fAddresses (l : List Byte) : List Nat := ((l.drop 24).take (fAddressCount l)).map (·.toNat)
def fSuggestion (l : List Byte) : Option Nat :=
  if fHasSuggestion l then some (byteAt l (24 + fAddressCount l)) else none
def fAsymmetry (l : List Byte) : Option Int :=
  if fHasAsymmetry l then some (s16Of (wordAt l (24 + fAddressCount l + (if fHasSuggestion l then 1 else 0)))) else none
def fPadding (l : List Byte) : List Byte := l.drop (24 + fAddressCount l + fOptional l)

/-- The first shape check that block 1 fails (R38). -/
def shapeCheck (l : List Byte) : Option CheckName :=
  if fVersion l ≠ 1 then some .version
  else if fAddressCount l = 0 ∨ 8 < fAddressCount l then some .addressCount
  else if 16 ≤ fFlags l then some .flags
  else if fBlockCount l ≠ fRequired l then some .blockCount
  else none
/-- The first field check that a record fails (R39). -/
def fieldCheck (l : List Byte) : Option CheckName :=
  if cardKindOf (byteAt l 1) = none then some .cardKind
  else if wordAt l 6 = 0 ∨ 2000 < wordAt l 6 then some .declaredDraw
  else if fTransmitter l = true ∧ fNeedsTiming l = false then some .txWithoutTiming
  else if (fSerial l).any (fun b => b.toNat < 32 || 126 < b.toNat) = true then some .serial
  else if 8191 < wordAt l 20 then some .internalDelay
  else if 4095 < wordAt l 22 then some .echoTurnaround
  else if (fAddresses l).any (fun a => !isCardAddress a) = true then some .addressValue
  else if (fAddresses l).eraseDups.length ≠ (fAddresses l).length then some .addressDuplicate
  else if (fSuggestion l).any (fun p => 7 < p) = true then some .prioritySuggestion
  else if (fAsymmetry l).any (fun a => a < -512 || 511 < a) = true then some .asymmetry
  else if (fPadding l).any (· ≠ 0) = true then some .padding
  else none
/-- The identity record of the bytes of a valid record. -/
def identityOf (l : List Byte) : Identity where
  kind := (cardKindOf (byteAt l 1)).getD .other
  vendor := wordAt l 4
  serial := fSerial l
  draw := wordAt l 6
  needsTiming := fNeedsTiming l
  transmitter := fTransmitter l
  internalDelay := wordAt l 20
  turnaround := wordAt l 22
  addresses := fAddresses l
  suggestion := fSuggestion l
  asymmetry := fAsymmetry l

/-! ### Reads (R34, R35, R37, R42) -/

/-- A read starts on a FREE line (R34). -/
def startRead (n : SlotId) (p : ReadPurpose) (s : State) : State :=
  let r := s.readers[n]
  s.setReader n { r with
    line := some p
    nextBlock := 1
    reread := false
    blocks := []
    corrected := none
    host := if p = .host then .inFlight else r.host }
/-- A read in flight is aborted (R42): the line is freed, blocks gathered are discarded, last outcome is kept. -/
def abortRead (n : SlotId) (s : State) : State :=
  let r := s.readers[n]
  match r.line with
  | none => s
  | some p => s.setReader n { r with line := none, blocks := [], host := if p = .host then .aborted else r.host }
/-- A read of one purpose is aborted. -/
def abortReadOf (p : ReadPurpose) (n : SlotId) (s : State) : State :=
  if s.readers[n].line = some p then abortRead n s else s

/-- What a block completion comes to. -/
inductive ReadProgress where
  /-- The read goes on. -/
  | going
  /-- A block was uncorrectable twice (R37). -/
  | unreadable (block : Nat)
  /-- A check failed (R38, R39). -/
  | badFormat (c : CheckName)
  /-- Every check passed (R39). -/
  | valid (record : Identity)
  deriving DecidableEq, Repr

/-- The read status at the decoding end (R39), or of block 1 at a failed shape check (R38). -/
def statusOf (r : ReadContext) : ReadStatus := if r.corrected.isSome then .corrected else .clean
/-- The read context after a block is gathered (R35, R37). -/
def gather (r : ReadContext) (d : BitVec 64) (wasCorrected : Bool) : ReadContext :=
  { r with
    blocks := r.blocks ++ [d]
    nextBlock := r.nextBlock + 1
    reread := false
    corrected := if wasCorrected then some r.nextBlock else r.corrected }
/-- The progress of a read with its gathered blocks (R35, R38, R39). -/
def progressOf (blocks : List (BitVec 64)) : ReadProgress :=
  let l := recordBytes blocks
  match blocks with
  | [_] => match shapeCheck l with
    | some c => .badFormat c
    | none => .going
  | _ =>
    if blocks.length < fBlockCount l then .going
    else match fieldCheck l with
      | some c => .badFormat c
      | none => .valid (identityOf l)
/-- A block completion in the read context (R35 to R37). -/
def completeBlock (a : Option IdBlock) (r : ReadContext) : ReadContext × ReadProgress :=
  match decodeAnswer a with
  | .uncorrectable => if r.reread then (r, .unreadable r.nextBlock) else ({ r with reread := true }, .going)
  | .clean d => (gather r d false, progressOf (r.blocks ++ [d]))
  | .corrected d => (gather r d true, progressOf (r.blocks ++ [d]))

/-- ID_CORRECTED at the decoding end of a CORRECTED read (R39). -/
def noteCorrected (n : SlotId) (r : ReadContext) (s : State) : State :=
  match r.corrected with
  | some k => raiseEvent .idCorrected (.slot n) k .warning s
  | none => s

/-- The end of a read (R37, R41, R43, R44): last outcome takes the outcome, the line becomes FREE, and a host read's
result is recorded with the blocks that were decoded; ID_UNREADABLE keeps no fields. -/
def endRead (n : SlotId) (p : ReadPurpose) (o : ReadOutcome) (st : ReadStatus) (block : Option Nat)
    (check : Option CheckName) (s : State) : State :=
  let r := s.readers[n]
  s.setReader n { r with
    line := none
    blocks := []
    lastOutcome := some ⟨o, st, block, p, s.tb.cfc, check⟩
    host := if p = .host then .ended o st block (if o = .idUnreadable then [] else r.blocks) check else r.host }

end Sys2Proof.Machine
end

