-- ==== Sys2Proof/Machine/Slots.lean ====
section
/-! DEFINITION. The Slot Controller's transitions (R8 to R27) with every block's share of the slot events (R25). The
admission check, the shed list and the latch are in Power.lean. -/

namespace Sys2Proof.Machine

/-! ### Entering a state -/

/-- The states on whose entry approval waived is cleared (R5). -/
def SlotState.clearsWaived : SlotState → Bool
  | .powering | .empty | .poweredDown | .faulted _ => true
  | .detected | .identifying | .awaiting _ | .training | .active | .draining _ | .poweringOff _ | .shed
  | .recovering => false
/-- The states on whose entry the identity record is removed (R5). -/
def SlotState.dropsIdentity : SlotState → Bool
  | .identifying | .empty => true
  | .detected | .awaiting _ | .powering | .training | .active | .draining _ | .poweringOff _ | .poweredDown | .shed
  | .faulted _ | .recovering => false
/-- The states on whose entry the restoring slot's hold ends (R51). -/
def SlotState.endsHold : SlotState → Bool
  | .powering | .awaiting .budget | .faulted _ | .empty | .poweredDown => true
  | .detected | .identifying | .awaiting .approval | .training | .active | .draining _ | .poweringOff _ | .shed
  | .recovering => false

/-- The power-on list after a slot enters a state (R48). -/
def powerListAfter (n : SlotId) (st : SlotState) (l : List SlotId) : List SlotId :=
  if st.onPowerList then if l.contains n then l else l ++ [n] else l.filter (· ≠ n)

/-- The records of a state change (R5, R48, R51), without its notice. -/
def recordState (n : SlotId) (st : SlotState) (s : State) : State :=
  let s := s.updSlot n fun r => { r with
    state := st
    lastChange := s.tb.cfc
    waived := r.waived && !st.clearsWaived
    identity := if st.dropsIdentity then none else r.identity }
  s.setBudget { s.budget with
    powerOn := powerListAfter n st s.budget.powerOn
    restoring := if s.budget.restoring = some n ∧ st.endsHold = true then none else s.budget.restoring }

/-- SLOT_FAULT is cleared when a slot leaves a FAULTED reason (R20). -/
def clearFault (n : SlotId) (old : SlotState) (s : State) : State :=
  match old with
  | .faulted r => clearAlarm .slotFault (.slot n) (FaultReason.number r) s
  | .empty | .detected | .identifying | .awaiting _ | .powering | .training | .active | .draining _ | .poweringOff _
  | .poweredDown | .shed | .recovering => s
/-- SLOT_FAULT is raised on entry to FAULTED with the reason as subcode (R20). -/
def raiseFault (n : SlotId) (st : SlotState) (s : State) : State :=
  match st with
  | .faulted r => raiseAlarm .slotFault (.slot n) (FaultReason.number r) .major s
  | .empty | .detected | .identifying | .awaiting _ | .powering | .training | .active | .draining _ | .poweringOff _
  | .poweredDown | .shed | .recovering => s

/-- A slot enters a state, or changes the reason of its state: its records, the SLOT notice (R25), and SLOT_FAULT (R20). The SLOT
notice is handed before the ALARM notice of SLOT_FAULT, at an entry to FAULTED and at an exit from it. DESIGN CHOICE (log 32). -/
def gotoState (n : SlotId) (st : SlotState) (s : State) : State :=
  if s.slots[n].state = st then s
  else raiseFault n st (clearFault n s.slots[n].state (slotNotice n (recordState n st s)))

/-! ### Shares of the slot events -/

/-- The lane goes DOWN (R179): quiet received is cleared, a reception is cut off (R65). -/
def laneDown (n : SlotId) (s : State) : State := s.setLane n ⟨.down, false, none⟩
/-- Every window, hold, limit and wait of the slot is abandoned. -/
def SlotRec.stopped (r : SlotRec) : SlotRec :=
  { r with
    goodHold := none
    inrushWindow := none
    trainLimit := none
    drainLimit := none
    offWait := none
    holdDone := false
    readDone := false }
def leaveShedList (n : SlotId) (s : State) : State :=
  s.setBudget { s.budget with shedList := s.budget.shedList.filter (· ≠ n) }
def leaveQueue (n : SlotId) (s : State) : State := { s with sc := { s.sc with queue := s.sc.queue.filter (· ≠ n) } }

/-- A slot in DETECTED with its latch closed and its service line free enters IDENTIFYING, and its admission read
starts (R8, R34). -/
def tryIdentify (n : SlotId) (s : State) : State :=
  if s.slots[n].state = .detected ∧ s.slots[n].latchClosed = true ∧ s.readers[n].line = none then
    startRead n .admission (gotoState n .identifying s)
  else s
/-- A slot enters DETECTED (R8). -/
def toDetected (n : SlotId) (s : State) : State := tryIdentify n (gotoState n .detected s)

/-- Where a slot goes at power-off completion (R17). -/
def afterPowerOff (r : SlotRec) : SlotState :=
  if r.present then
    match r.state with
    | .poweringOff .normal => .poweredDown
    | .poweringOff .shed => .shed
    | .poweringOff .cycle => .detected
    | .empty | .detected | .identifying | .awaiting _ | .powering | .training | .active | .draining _ | .poweredDown
    | .shed | .faulted _ | .recovering => .poweredDown
  else .empty
/-- Power-off completion (R17, R25): the draw leaves, the learned entries and reports of the slot go, and the slot goes by
its off purpose, or to EMPTY when the card has gone. The reports are cleared after the SLOT notice. DESIGN CHOICE (log 32). -/
def powerOffCompletion (n : SlotId) (s : State) : State :=
  let dest := afterPowerOff s.slots[n]
  let s := gotoState n dest (s.updSlot n fun r => { r.stopped with drawCounted := 0, pwrEn := false })
  let s := clearReports n (releaseEntries n (laneDown n s))
  let s := if dest = .empty then leaveShedList n s else s
  tryIdentify n s
/-- On entry to POWERING_OFF the 500 ms wait starts; where PWR_GOOD is already deasserted completion follows at once
(R17). -/
def startOffWait (n : SlotId) (s : State) : State :=
  let s := s.updSlot n fun r => { r with offWait := some (startTimerMs s 500) }
  if s.slots[n].pwrGood then s else powerOffCompletion n s

/-- The shares of the other blocks in a teardown (R69, R79, R97, R134, R148, R179, R109): a slot that was ACTIVE or
DRAINING ends its traffic. Of the notices, the cleared reports come first, then DELAY_UNSTABLE, then a lost reference.
DESIGN CHOICE (log 32). -/
def teardownShares (n : SlotId) (wasInTraffic : Bool) (s : State) : State :=
  let s := abortReadOf .recovery n s
  let s := if wasInTraffic then runArbiter (endTraffic n s) else s
  let s := clearReports n (releaseEntries n (laneDown n s))
  refCheck n (timingOff n s)
/-- The declared draw counted after a teardown to a destination (R25). -/
def drawAfterTeardown (dest : SlotState) (draw : Nat) : Nat :=
  match dest with
  | .poweringOff _ => draw
  | .empty | .detected | .identifying | .awaiting _ | .powering | .training | .active | .draining _ | .poweredDown
  | .shed | .faulted _ | .recovering => 0
/-- A teardown (R25): PWR_EN goes off, everything in flight is abandoned, the slot goes to its destination, and every
block takes its share. -/
def teardown (n : SlotId) (dest : SlotState) (s : State) : State :=
  let wasInTraffic := s.slots[n].state.inTraffic
  let s := gotoState n dest (s.updSlot n fun r => { r.stopped with
    pwrEn := false
    drawCounted := drawAfterTeardown dest r.drawCounted })
  teardownShares n wasInTraffic s
/-- A teardown to POWERING_OFF (R13, R14, R21, R27, R28). -/
def teardownOff (n : SlotId) (p : OffPurpose) (s : State) : State := startOffWait n (teardown n (.poweringOff p) s)

/-- Drain start (R16, R95, R134, R180): the drain limit in ms starts, quiet received is cleared, a measurement in flight
ends, the gates go off. The SLOT notice is handed first, then REFERENCE_LOST and the TIMING notice of a QUALIFIED reference.
DESIGN CHOICE (log 32). -/
def drainStart (n : SlotId) (p : OffPurpose) (ms : Nat) (s : State) : State :=
  let s := gotoState n (.draining p) (s.updSlot n fun r => { r with drainLimit := some (startTimerMs s ms) })
  let s := s.setLane n { s.lanes[n] with quiet := false }
  gateFollow n (refCheck n (timingDrainStart n s))
/-- The off purpose of a draining slot. -/
def SlotState.purpose : SlotState → OffPurpose
  | .draining p => p
  | .poweringOff p => p
  | .empty | .detected | .identifying | .awaiting _ | .powering | .training | .active | .poweredDown | .shed
  | .faulted _ | .recovering => .normal
/-- Drain end (R16, R96, R134, R179): the slot moves to POWERING_OFF with its off purpose, its traffic ends, its timing
record moves to OFF. The SLOT notice is handed before the clear of DELAY_UNSTABLE. DESIGN CHOICE (log 32). -/
def drainEnd (n : SlotId) (s : State) : State :=
  let p := s.slots[n].state.purpose
  let s := gotoState n (.poweringOff p) (s.updSlot n fun r => { r.stopped with pwrEn := false })
  let s := laneDown n (runArbiter (endTraffic n s))
  startOffWait n (refCheck n (timingOff n s))
/-- The slot is in DRAINING. -/
def SlotState.isDraining : SlotState → Bool
  | .draining _ => true
  | .empty | .detected | .identifying | .awaiting _ | .powering | .training | .active | .poweringOff _ | .poweredDown
  | .shed | .faulted _ | .recovering => false
/-- The drain-end test (R16): the port is empty and the quiet marker has come since drain start. -/
def drainTest (n : SlotId) (s : State) : State :=
  if s.slots[n].state.isDraining = true ∧ portEmpty s.buffer.ports[n] = true ∧ s.lanes[n].quiet = true then drainEnd n s
  else s

/-- Entry to POWERING (R13): PWR_EN is asserted, the draw is counted, the inrush window opens, and the 5 ms hold starts
where PWR_GOOD is asserted already. -/
def enterPowering (n : SlotId) (s : State) : State :=
  gotoState n .powering (s.updSlot n fun r => { r with
    pwrEn := true
    drawCounted := declaredDraw s n
    inrushWindow := some (startTimerMs s s.sc.inrush)
    goodHold := if r.pwrGood then some (startTimerMs s 5) else none })
/-- Lane training starts (R14, R27, R179): the inrush window closes and the 50 ms limit starts. -/
def startLaneTraining (n : SlotId) (s : State) : State :=
  let s := s.updSlot n fun r => { r with
    goodHold := none
    inrushWindow := none
    trainLimit := some (startTimerMs s 50) }
  s.setLane n { s.lanes[n] with status := .training }
/-- POWERING to TRAINING (R13, R14): a card that needs timing is measured from the same moment. -/
def enterTraining (n : SlotId) (s : State) : State :=
  let s := startLaneTraining n (gotoState n .training s)
  if needsTiming s n then startMeasurement n s else s
/-- Service start (R15, R25, R86, R92, R126): the lane is UP, the slot ACTIVE; a slot from RECOVERING whose timing record
is OFF and whose card needs timing is measured. The arbiter runs before the port's choice. DESIGN CHOICE (log 37). -/
def serviceStart (n : SlotId) (s : State) : State :=
  let fromRecovering := s.slots[n].state == .recovering
  let s := gotoState n .active (s.updSlot n (·.stopped))
  let s := s.setLane n { s.lanes[n] with status := .up }
  let s := if fromRecovering && s.timing[n].state == .off && needsTiming s n then startMeasurement n s else s
  schedule n (runArbiter s)

/-- An AWAITING slot leaves the queue and gives up its identity (R10): its reserved learned entries are released. -/
def withdrawIdentity (n : SlotId) (s : State) : State := releaseEntries n (leaveQueue n s)
/-- The restoring slot's hold ends when its latch opens (R51). -/
def endRestoring (n : SlotId) (s : State) : State :=
  if s.budget.restoring = some n then s.setBudget { s.budget with restoring := none } else s

/-- A shed priority suggestion is taken while the host has set none (R5, R9). -/
def takeSuggestion (c : Identity) (r : SlotRec) : SlotRec :=
  match c.suggestion with
  | some p => if r.priorityByHost then r else { r with priority := p }
  | none => r

end Sys2Proof.Machine
end

