-- ==== Sys2Proof/Machine/Power.lean ====
section
/-! DEFINITION. The Power Budget Unit (R47 to R57): the admission check, the budget pass, shedding and its episode, and the
cutoff latch. -/

namespace Sys2Proof.Machine

/-! ### Admission (R11, R49) -/

/-- The admission check of a slot passes (R49). -/
def admissionPasses (s : State) (n : SlotId) : Bool := committed s + declaredDraw s n ≤ s.budget.effective
/-- The Power Budget Unit makes the check that an admission asks for (R49, R51). -/
def checkAllowed (s : State) (n : SlotId) : Bool :=
  s.budget.latch.isNone && !s.budget.episode
    && (s.budget.restoring == some n
      || (s.budget.restoring.isNone && s.budget.shedList.isEmpty && s.sc.queue.isEmpty))
/-- A slot joins the tail of the admission queue (R12). -/
def joinQueue (n : SlotId) (s : State) : State := { s with sc := { s.sc with queue := s.sc.queue ++ [n] } }
/-- The admission of a slot in AWAITING (R11): POWERING on a passing check, else AWAITING(BUDGET) at the queue's tail. -/
def admitSlot (n : SlotId) (s : State) : State :=
  if checkAllowed s n && admissionPasses s n then enterPowering n s else gotoState n (.awaiting .budget) (joinQueue n s)

/-! ### The budget pass (R50) -/

/-- The queue is served from its head; the first check that fails ends the pass (R50, step 2). -/
def serveQueue : List SlotId → State → State
  | [], s => s
  | n :: r, s => if admissionPasses s n then serveQueue r (enterPowering n (leaveQueue n s)) else s
/-- A shed slot is restored (R50, step 1): it leaves the shed list, becomes the restoring slot and goes to DETECTED with
approval waived (R19). -/
def restore (n : SlotId) (s : State) : State :=
  let s := leaveShedList n s
  let s := s.setBudget { s.budget with restoring := some n }
  toDetected n (s.updSlot n fun r => { r with waived := true })
/-- The budget pass (R50). -/
def budgetPass (s : State) : State :=
  if s.budget.latch.isSome || s.budget.episode || s.budget.restoring.isSome then s
  else match s.budget.shedList with
    | top :: _ => if s.slots[top].state = .shed ∧ admissionPasses s top = true then restore top s else s
    | [] => serveQueue s.sc.queue s

/-! ### Shedding (R21, R52 to R54) -/

/-- A shed order (R21, R53): the slot is pushed on the shed list and carries it out by its state, with its notices before the
next order's: an evaluation that sheds several QUALIFIED references hands a TIMING notice at each order that changes the quality
or the selection. DESIGN CHOICE (log 32). -/
def shedOrder (n : SlotId) (s : State) : State :=
  let s := s.setBudget { s.budget with shedList := n :: s.budget.shedList }
  if s.slots[n].state = .active then drainStart n .shed 10 s else teardownOff n .shed s
/-- Shed priorities 1 to 7 can be shed (R53). -/
def sheddable (s : State) (n : SlotId) : Bool := 1 ≤ s.slots[n].priority && s.slots[n].priority ≤ 7
/-- The candidate order (R53). -/
def candidateOrder (s : State) : List SlotId :=
  (s.budget.powerOn.reverse.filter fun n => s.slots[n].state.onPowerList && sheddable s n)
    ++ [7, 6, 5, 4, 3, 2, 1].flatMap fun p =>
      allSlots.reverse.filter fun n => s.slots[n].state == .active && s.slots[n].priority == p
/-- The shortest leading part of a candidate order whose draws come to `need`, and whether they do (R53). -/
def leadingPart (s : State) : Nat → List SlotId → List SlotId × Bool
  | need, [] => ([], need == 0)
  | need, n :: r =>
    if need = 0 then ([], true)
    else
      let rest := leadingPart s (need - s.slots[n].drawCounted) r
      (n :: rest.1, rest.2)

/-- The episode and exceeded flag end with their alarms, BUDGET_SHEDDING's before BUDGET_EXCEEDED's as R56 has them at a cutoff;
at another end of an episode (R54) that order is a DESIGN CHOICE (log 9). -/
def clearEpisode (s : State) : State :=
  let wasExceeded := s.budget.exceeded
  let s := clearAlarm .budgetShedding .part 0 (s.setBudget { s.budget with episode := false, exceeded := false })
  if wasExceeded then clearAlarm .budgetExceeded .part 0 s else s
/-- The end of an episode, which triggers the budget pass (R54). -/
def endEpisode (s : State) : State := budgetPass (clearEpisode s)
/-- The shortfall is over (R53, second row). -/
def clearExceeded (s : State) : State :=
  if s.budget.exceeded then clearAlarm .budgetExceeded .part 0 (s.setBudget { s.budget with exceeded := false }) else s
/-- Every candidate together is not enough (R53, R62). -/
def setExceeded (s : State) : State :=
  if s.budget.exceeded then s
  else raiseAlarm .budgetExceeded .part 0 .critical (s.setBudget { s.budget with exceeded := true })
/-- The first two rows of an evaluation's table (R53), which the evaluation after its own orders comes to. -/
def settleRows (s : State) : State :=
  if committed s ≤ s.budget.effective then endEpisode s else clearExceeded s
/-- An evaluation of the episode (R53). -/
def evaluate (s : State) : State :=
  if staying s ≤ s.budget.effective then settleRows s
  else
    let part := leadingPart s (staying s - s.budget.effective) (candidateOrder s)
    let s := eachSlot shedOrder part.1 s
    if part.2 then settleRows s else setExceeded s
/-- The start of an episode (R52), before its first evaluation. -/
def startEpisode (s : State) : State :=
  raiseAlarm .budgetShedding .part 0 .major (s.setBudget { s.budget with episode := true, exceeded := false })

/-- What the Power Budget Unit does once at a RESTART (R63), and at a change of a shed priority while the episode runs
(R53). -/
def settle (s : State) : State :=
  if s.budget.latch.isSome then s
  else if s.budget.episode then evaluate s
  else if s.budget.effective < committed s then evaluate (startEpisode s)
  else budgetPass s
/-- The committed draw, the staying draw and the effective capacity, whose changes R53 names. -/
def drawView (s : State) : Nat × Nat × Nat := (committed s, staying s, s.budget.effective)
/-- The first slot of a list has left it. -/
def headLeft (old new : List SlotId) : Bool := old.head?.any fun n => !new.contains n
/-- A trigger of the budget pass has come between two states (R50): a rise of the effective capacity, a fall of the committed
draw, the end of the restoring slot's hold, the departure of the shed list's top or of the queue's head, or a release of the
cutoff latch. The end of an episode and a RESTART's rebuild run the pass where they stand. -/
def passTriggered (s s' : State) : Bool :=
  decide (s.budget.effective < s'.budget.effective) || decide (committed s' < committed s)
    || (s.budget.restoring.isSome && s'.budget.restoring != s.budget.restoring)
    || headLeft s.budget.shedList s'.budget.shedList || headLeft s.sc.queue s'.sc.queue
    || (s.budget.latch.isSome && s'.budget.latch.isNone)
/-- An operation, after which the Power Budget Unit acts where one of its triggers has come: the evaluations of a running
episode (R53), the beginning of an episode (R52), the budget pass (R50). While the latch is SET it does none of them (R57). The
triggers are read off the state before the operation and the state after it. DEDUCED (log 24). -/
def withBudget (f : State → State) (s : State) : State :=
  let s' := f s
  if s'.budget.latch.isSome then s'
  else if s'.budget.episode then if drawView s' = drawView s then s' else evaluate s'
  else if drawView s' = drawView s ∧ passTriggered s s' = false then s'
  else if s'.budget.effective < committed s' then evaluate (startEpisode s')
  else if passTriggered s s' then budgetPass s'
  else s'

/-! ### The cutoff latch (R24, R56, R59) -/

/-- The states that the cutoff tears down (R24). -/
def SlotState.cutOff : SlotState → Bool
  | .powering | .training | .active | .draining _ | .poweringOff _ | .recovering | .shed => true
  | .empty | .detected | .identifying | .awaiting _ | .poweredDown | .faulted _ => false
/-- The cutoff teardown of one slot (R24). -/
def cutoffSlot (n : SlotId) (s : State) : State :=
  if s.slots[n].state.cutOff then teardown n (.faulted .cutoff) s else s
/-- The cutoff latch is set (R56); nothing changes where it is SET already. -/
def setCutoff (cause : CutoffCause) (s : State) : State :=
  if s.budget.latch.isSome then s
  else
    let s := raiseAlarm .cutoffActive .part 0 .critical
      (s.setBudget { s.budget with latch := some ⟨cause, s.tb.cfc⟩, restoring := none, shedList := [] })
    let s := eachSlot cutoffSlot allSlots s
    gatesFollow (if s.budget.episode then clearEpisode s else s)
/-- A FAULTED(CUTOFF) slot moves to DETECTED at the release (R24, R59). -/
def releaseSlot (n : SlotId) (s : State) : State :=
  if s.slots[n].state = .faulted .cutoff then toDetected n s else s
/-- The cutoff latch is cleared (R59). CUTOFF_ACTIVE is cleared first, and then the FAULTED(CUTOFF) slots go to DETECTED in
ascending slot number, each on to IDENTIFYING before the next. DESIGN CHOICE (log 9). -/
def releaseCutoff (s : State) : State :=
  eachSlot releaseSlot allSlots
    (clearAlarm .cutoffActive .part 0 (s.setBudget { s.budget with latch := none }))

/-! ### Capacities (R47) -/

/-- The effective capacity is worked out again (R47). -/
def recompute (s : State) : State :=
  s.setBudget { s.budget with
    effective := effectiveCapacity s
    limitBattery := actionActive s .mainsFail
    limitThermal := actionActive s .thermal }

end Sys2Proof.Machine
end

