-- ==== Sys2Proof/Machine/Frame.lean ====
section
/-! DEFINITION. The oscillator's advances (R105) with all that they bring: probes and frame pulses (R127, R135), the gates
(R146, R147), and the frame boundary event (R106). -/

namespace Sys2Proof.Machine

/-! ### Within a frame -/

/-- A probe that waits at a position up to `last` starts, at the oscillator period of the advance that reaches it (R127). -/
def moveProbe (last : Nat) (n : SlotId) (s : State) : State :=
  match probeTarget s n with
  | some t => if t ≤ last then startProbe n (s.tb.osc + periodsTo s.tb t) s else s
  | none => s
/-- A frame pulse that waits at a position up to `last` starts (R135). -/
def movePulse (last : Nat) (n : SlotId) (s : State) : State :=
  match pulseTarget s n with
  | some t => if t ≤ last then s.setTiming n { s.timing[n] with fp := .pulse (s.tb.osc + periodsTo s.tb t) } else s
  | none => s
/-- The position moves forward by `d`, without a wrap: the probes and pulses on the way start, and every gate moves. -/
def movePosition (d : Nat) (s : State) : State :=
  let last := s.tb.p + d
  let s := eachSlot (movePulse last) allSlots (eachSlot (moveProbe last) allSlots s)
  let s := moveGates d s
  s.setTb { s.tb with p := last }

/-! ### The frame boundary event (R106) -/

/-- The Gate Generator's share: a staged pattern whose target is reached becomes active (R144), and the settle countdown
falls by one (R149). -/
def boundaryGates (s : State) : State :=
  let g := s.gates
  let g := match g.staged with
    | some (p, target) => if reached s.tb.cfc target then { g with active := p, staged := none } else g
    | none => g
  { s with gates := { g with settle := g.settle - 1 } }
/-- The Slot Timing Unit's share: staged values are applied (R131, R139), attempts send their next probe (R127), the pulse
hold is cleared (R136), and pulses with Q = 0 start (R135). The slots take each of these in ascending slot number, and so do the
clears of DELAY_UNSTABLE that the results bring. DESIGN CHOICE (log 9). -/
def boundaryTiming (s : State) : State :=
  let s := eachSlot boundaryProbe allSlots (eachSlot applyStaged allSlots s)
  eachSlot boundaryPulse allSlots (boundaryPulseHold s)
/-- The frame boundary event: CFC counts one, every block takes its share, and the announcement is formed last, so that it
carries what the other shares left (R131, R144). -/
def frameBoundaryEvent (s : State) : State :=
  let s := s.setTb { s.tb with p := s.tb.p - Config.frameTicks, cfc := s.tb.cfc + 1 }
  announce (gatesFollow (boundaryTiming (boundaryGates s)))

/-! ### Oscillator periods -/

/-- `k` oscillator periods, at most up to and with the advance that ends the frame. -/
def runPeriods (k : Nat) (s : State) : State :=
  let tb := s.tb
  let s := movePosition (advanceBy tb k) s
  let s := s.setTb { s.tb with osc := tb.osc + k, acc := accAfter tb k }
  if Config.frameTicks ≤ s.tb.p then frameBoundaryEvent s else s
/-- The oscillator periods up to the advance that brings the position to `target` or past it; none for a target that is
absent or not ahead in this frame, which is no event of this frame. -/
def periodsAhead (target : State → Option Nat) (s : State) : Option Nat :=
  match target s with
  | some t => if s.tb.p < t ∧ t ≤ Config.frameTicks then some (periodsTo s.tb t) else none
  | none => none
/-- The oscillator runs to `target` with a sample of the edge inputs at each grid period that it passes (R107), for at most
`samples` grid periods; a sample can move the position (R118), so the target is asked again after each. -/
def runSampled (target : State → Option Nat) : Nat → State → State
  | 0, s =>
    match periodsAhead target s with
    | some k => runPeriods k s
    | none => s
  | samples + 1, s =>
    match periodsAhead target s with
    | some k =>
      if edgesSettled s.tb = true ∨ k < periodsToGrid s.tb then runPeriods k s
      else
        let s' := sampleEdges (runPeriods (periodsToGrid s.tb) s)
        if k = periodsToGrid s.tb then s' else runSampled target samples s'
    | none => s
/-- The oscillator runs up to and with the advance that brings the position to `target` or past it, or does nothing where
there is none (log 8). The inputs go on showing their levels, so five samples settle every filter and no later sample of the
run changes anything. -/
def runTo (target : State → Option Nat) (s : State) : State := runSampled target 5 s

/-! ### Where the gate events of a slot lie -/

/-- The frame position of a slot coordinate. -/
def framePosition (s : State) (n : SlotId) (u : Nat) : Nat := u - compOf s n
/-- The least position past `u` in a list. -/
def nextAfter (u : Nat) (l : List Nat) : Option Nat := ((l.filter (fun x => u < x)).foldr insertPosition []).head?
/-- The frame position at which an ALIGNED slot next approaches a window (R147). -/
def approachTarget (s : State) (n : SlotId) : Option Nat :=
  if aligned s n then
    (nextAfter (slotCoord s n) ((occurrences s).filterMap fun o =>
      if o.guardTime ≤ o.start then some (o.start - o.guardTime) else none)).map (framePosition s n)
  else none
/-- The frame position of the start of a slot's approached window, ahead, where its TXG rises if every transmit condition
holds (R147). -/
def riseTarget (s : State) (n : SlotId) : Option Nat :=
  match approachedPlace s n with
  | some o => if aligned s n && slotCoord s n < o.start then some (framePosition s n o.start) else none
  | none => none
/-- The frame position at which an ALIGNED slot next reaches the end of a window (R146). -/
def endTarget (s : State) (n : SlotId) : Option Nat :=
  if aligned s n then (nextAfter (slotCoord s n) ((occurrences s).map (·.stop))).map (framePosition s n) else none
/-- The frame position at which a slot's guard hold reaches 0 (R146). -/
def holdTarget (s : State) (n : SlotId) : Option Nat :=
  if 0 < s.gates.slots[n].guardHold then some (s.tb.p + s.gates.slots[n].guardHold) else none

/-- The frame position Q of an ALIGNED slot, ahead in this frame; for Q = 0 it is the frame boundary (R135). -/
def pulseAdvance (s : State) (n : SlotId) : Option Nat :=
  if aligned s n then
    if compOf s n = 0 then some Config.frameTicks else some (pulsePosition (compOf s n))
  else none

end Sys2Proof.Machine
end

