-- ==== Sys2Proof/Machine/Inputs.lean ====
section
/-! DEFINITION. The commands of the alarm inputs (R153 to R155), and what a change of an input's activity or action brings at
the owners of its action (R47, R56, R150). -/

namespace Sys2Proof.Machine

/-- The reports of one input after its record changed from `before` (R154, R155): INPUT_ACTIVE follows its activity, the
capacity and the maintenance inhibit are worked out again, and an active input that is new to the action CUTOFF sets the
latch. That INPUT_ACTIVE comes before all that the owners raise is a DESIGN CHOICE (log 9). An input moved from MAINS_FAIL
or THERMAL to CUTOFF sets the latch before the budget pass of its capacity rise, which then finds the latch SET. DESIGN
CHOICE (log 31). -/
def reportInput (i : InputId) (before : InputRec) (s : State) : State :=
  let now := s.alarms.inputs[i]
  let s := if now.isActive = before.isActive then s
    else if now.isActive then raiseAlarm .inputActive (.input i) 0 now.severity s
    else clearAlarm .inputActive (.input i) 0 s
  let s := followMaintenance (recompute s)
  if now.isActive ∧ now.action = .cutoff ∧ ¬(before.isActive ∧ before.action = .cutoff) then setCutoff (.input i) s else s
/-- The record of an input is replaced, and its owners are told. -/
def changeInput (i : InputId) (r : InputRec) (s : State) : State :=
  withBudget (fun s => reportInput i s.alarms.inputs[i] (s.setInput i r)) s

/-- ALARM_INPUT_RAW_CHANGE: the raw level takes its other value; a hold of it begins where it differs from the filtered
level, and is abandoned where it returns (R153). -/
def execAlarmInputRawChange (i : InputId) (s : State) : Out State :=
  let r := s.alarms.inputs[i]
  .next (s.setInput i { r with
    raw := !r.raw
    hold := if (!r.raw) = r.level then none else some ⟨!r.raw, startTimerMs s r.debounce⟩ })
/-- ALARM_INPUT_FILTERED_CHANGE: the hold has lasted its debounce time (R153, R154). -/
def execAlarmInputFilteredChange (i : InputId) (s : State) : Out State :=
  .next (match s.alarms.inputs[i].hold with
    | some h => changeInput i { s.alarms.inputs[i] with level := h.level, hold := none } s
    | none => s)

end Sys2Proof.Machine
end

