-- ==== Sys2Proof/Machine/AlarmRequests.lean ====
section
/-! DEFINITION. The alarm requests: ALARM_READ, ALARM_ACK, INPUT_SET and RELAY_SET (R156, R162, R164, R166). -/

namespace Sys2Proof.Machine

/-! ### ALARM_READ (R166) -/

/-- A reply with the overflow flag as it stood, which the request then clears (R166). -/
def alarmReadAnswer (tag : Byte) (data : List Byte) (s : State) : State :=
  let s' := accept 28 tag (data ++ beFlag s.alarms.overflow) s
  { s' with alarms := { s'.alarms with overflow := false } }
/-- ALARM_READ with mode TABLE: a start position of 1 to 48. -/
def alarmReadTable (tag : Byte) (start : Nat) (s : State) : State :=
  if 1 ≤ start ∧ start ≤ 48 then
    alarmReadAnswer tag (be8 s.alarms.table.length ++ beList alarmBytes ((s.alarms.table.drop (start - 1)).take 12)) s
  else refuse 28 tag .badField s
def execAlarmReadTable (tag : Byte) (body : Body Nat) (s : State) : Out State :=
  runRequest (.alarmReadTable tag body) 28 tag body (alarmReadTable tag) s
/-- The settings of an input record in the order of R152. -/
def inputSettings (i : InputId) (r : InputRec) : List Byte :=
  be8 (inputNumber i) ++ be8 r.polarity.code ++ be8 r.debounce ++ be8 r.action.code ++ be8 r.severity.code
/-- An input record in mode INPUTS: its settings, raw level, filtered level, hold in progress, active. -/
def inputReadBytes (s : State) (i : InputId) : List Byte :=
  let r := s.alarms.inputs[i]
  inputSettings i r ++ beFlag r.raw ++ beFlag r.level ++ beFlag r.hold.isSome ++ beFlag r.isActive
def execAlarmReadInputs (tag : Byte) (body : Body Unit) (s : State) : Out State :=
  runRequest (.alarmReadInputs tag body) 28 tag body
    (fun _ s => alarmReadAnswer tag (allInputs.flatMap (inputReadBytes s)) s) s
/-- The mode of a relay, which SUMMARY does not have. -/
def relayMode (a : Alarms) : RelayName → Option RelayMode
  | .critical => some a.criticalMode
  | .major => some a.majorMode
  | .minor => some a.minorMode
  | .summary => none
/-- The four relays: mode where there is one, condition and drive. -/
def relayBytes (a : Alarms) : List Byte :=
  [RelayName.critical, .major, .minor, .summary].flatMap fun r =>
    beOpt (fun m : RelayMode => be8 m.code) 1 (relayMode a r) ++ beFlag (relayCondition a r) ++ beFlag (relayEnergised a r)
def execAlarmReadRelays (tag : Byte) (body : Body Unit) (s : State) : Out State :=
  runRequest (.alarmReadRelays tag body) 28 tag body (fun _ s => alarmReadAnswer tag (relayBytes s.alarms) s) s

/-! ### ALARM_ACK (R162) -/

/-- The record as it stands after an accepted acknowledgement. -/
def AlarmRec.acked (r : AlarmRec) (cfc : FrameCount) : AlarmRec :=
  if r.acknowledged then r else { r with acknowledged := true, lastChange := cfc }
/-- An acknowledgement of a triple. -/
def ackTriple (tag : Byte) (code : AlarmCode) (src : AlarmSource) (sub count : Nat) (s : State) : State :=
  match findAlarm s code src sub with
  | none => refuse 29 tag .notFound s
  | some r =>
    if r.raiseCount ≠ count then refuseWith 29 tag .stale (be8 r.raiseCount) s
    else
      let r' := r.acked s.tb.cfc
      let s := accept 29 tag (alarmBytes r' ++ beFlag (!r.active)) s
      if r.active then s.setTable (mapAlarm s.alarms.table code src sub (fun _ => r'))
      else alarmNotice .ackRemoved r' (s.setTable (dropAlarm s.alarms.table code src sub))
def alarmAck (tag : Byte) (f : AckFields) (s : State) : State :=
  match alarmCodeOf f.code, alarmSourceOf f.sourceKind f.sourceNumber with
  | some code, some src =>
    if 1 ≤ f.raiseCount ∧ f.raiseCount ≤ 255 then ackTriple tag code src f.subcode f.raiseCount s
    else refuse 29 tag .badField s
  | _, _ => refuse 29 tag .badField s
def execAlarmAck (tag : Byte) (body : Body AckFields) (s : State) : Out State :=
  runRequest (.alarmAck tag body) 29 tag body (alarmAck tag) s

/-! ### INPUT_SET (R156) -/

/-- The severity and the debounce of a request, which report nothing. -/
def takeQuietFields (f : InputFields) (r : InputRec) : InputRec :=
  { r with severity := f.severity.getD r.severity, debounce := (f.debounce.map takeDebounce).getD r.debounce }
def takeAction (f : InputFields) (r : InputRec) : InputRec := { r with action := f.action.getD r.action }
def takePolarity (f : InputFields) (r : InputRec) : InputRec := { r with polarity := f.polarity.getD r.polarity }
/-- The record after the request. -/
def takeInput (f : InputFields) (r : InputRec) : InputRec := takePolarity f (takeAction f (takeQuietFields f r))
/-- The items of a hold (R152): the level held, the period at which it began, and the debounce in force then. Their widths
are the model's choice. DESIGN CHOICE (log 12). -/
def holdBytes (h : InputHold) : List Byte := beFlag h.level ++ be32 h.timer.start ++ be8 (h.timer.length / Config.msTicks)
/-- The reply to INPUT_SET: the whole record in the order of R152, the hold as an optional field. -/
def inputSetReply (i : InputId) (r : InputRec) : List Byte :=
  inputSettings i r ++ beFlag r.level ++ beOpt holdBytes 6 r.hold ++ beFlag r.isActive
/-- The fields are taken after the reply: the action first, then the polarity, each with its reports (R156). -/
def inputEffects (i : InputId) (f : InputFields) (s : State) : State :=
  let s := s.setInput i (takeQuietFields f s.alarms.inputs[i])
  let s := changeInput i (takeAction f s.alarms.inputs[i]) s
  changeInput i (takePolarity f s.alarms.inputs[i]) s
def inputSet (tag : Byte) (f : InputFields) (s : State) : State :=
  match inputOf f.input with
  | some i => inputEffects i f (accept 30 tag (inputSetReply i (takeInput f s.alarms.inputs[i])) s)
  | none => refuse 30 tag .badField s
def execInputSet (tag : Byte) (body : Body InputFields) (s : State) : Out State :=
  runRequest (.inputSet tag body) 30 tag body (inputSet tag) s

/-! ### RELAY_SET (R164) -/

/-- The modes of a list are taken in its order, so of two for one relay the last stands. DESIGN CHOICE (log 12). -/
def takeModes : List (RelayName × RelayMode) → Alarms → Alarms
  | [], a => a
  | (n, m) :: r, a => takeModes r (match n with
    | .critical => { a with criticalMode := m }
    | .major => { a with majorMode := m }
    | .minor => { a with minorMode := m }
    | .summary => a)
def relaySet (tag : Byte) (f : RelayFields) (s : State) : State :=
  if f.modes.any (fun x => x.1 == .summary) then refuse 31 tag .badField s
  else
    let s := { s with alarms := takeModes f.modes s.alarms }
    accept 31 tag (relayBytes s.alarms) s
def execRelaySet (tag : Byte) (body : Body RelayFields) (s : State) : Out State :=
  runRequest (.relaySet tag body) 31 tag body (relaySet tag) s

end Sys2Proof.Machine
end

