-- ==== Sys2Proof/Machine/BudgetRequests.lean ====
section
/-! DEFINITION. The budget requests (R58 to R61). -/

namespace Sys2Proof.Machine

/-- The capacities after BUDGET_SET (R61). -/
def takeCapacities (f : BudgetFields) (b : Budget) : Budget :=
  { b with
    mains := (f.mains.map (min 8000)).getD b.mains
    battery := (f.battery.map (min 8000)).getD b.battery
    thermal := (f.thermal.map (min 8000)).getD b.thermal }
/-- The reply to BUDGET_SET: the capacities with the effective capacity that results (R61). -/
def budgetSetReply (s : State) : List Byte :=
  be16 s.budget.mains ++ be16 s.budget.battery ++ be16 s.budget.thermal ++ be16 (effectiveCapacity s)
def budgetSet (tag : Byte) (f : BudgetFields) (s : State) : State :=
  let s := s.setBudget (takeCapacities f s.budget)
  withBudget recompute (accept 10 tag (budgetSetReply s) s)
def execBudgetSet (tag : Byte) (body : Body BudgetFields) (s : State) : Out State :=
  runRequest (.budgetSet tag body) 10 tag body (budgetSet tag) s

/-- A cutoff cause: HOST 0 or INPUT 1, and the input's number (R182). -/
def causeBytes : CutoffCause → List Byte
  | .host => be8 0 ++ be8 0
  | .input i => be8 1 ++ be8 (inputNumber i)
def slotByte (n : SlotId) : List Byte := be8 (slotNumber n)
/-- The reply to BUDGET_READ (R60). -/
def budgetReadReply (s : State) : List Byte :=
  let b := s.budget
  be16 b.mains ++ be16 b.battery ++ be16 b.thermal ++ be16 b.effective
    ++ be8 ((if b.limitBattery then 1 else 0) + (if b.limitThermal then 2 else 0))
    ++ be16 (committed s) ++ be16 (staying s) ++ beFlag b.episode ++ beFlag b.exceeded
    ++ beList (fun n => slotByte n ++ be8 s.slots[n].state.number) b.shedList ++ beList slotByte s.sc.queue
    ++ beOpt slotByte 1 b.restoring ++ beList slotByte b.powerOn ++ beFlag b.latch.isSome
    ++ beOpt (fun l : CutoffLatch => causeBytes l.cause) 2 b.latch
    ++ beOpt (fun l : CutoffLatch => frameBytes l.frame) 4 b.latch
    ++ allSlots.flatMap fun n => be16 s.slots[n].drawCounted
def execBudgetRead (tag : Byte) (body : Body Unit) (s : State) : Out State :=
  runRequest (.budgetRead tag body) 11 tag body (fun _ s => accept 11 tag (budgetReadReply s) s) s

/-- CUTOFF (R58). -/
def execCutoff (tag : Byte) (body : Body Unit) (s : State) : Out State :=
  runRequest (.cutoff tag body) 12 tag body (fun _ s => withBudget (setCutoff .host) (accept 12 tag [] s)) s

/-- CUTOFF_RELEASE by the latch and the inputs (R59). -/
def cutoffRelease (tag : Byte) (s : State) : State :=
  if s.budget.latch.isSome then
    if actionActive s .cutoff then refuse 13 tag .wrongState s
    else withBudget releaseCutoff (accept 13 tag [] s)
  else accept 13 tag [] s
def execCutoffRelease (tag : Byte) (body : Body Unit) (s : State) : Out State :=
  runRequest (.cutoffRelease tag body) 13 tag body (fun _ => cutoffRelease tag) s

end Sys2Proof.Machine
end

