-- ==== Sys2Proof/Machine/BufferRequests.lean ====
section
/-! DEFINITION. QUEUE_SET (R101, R102) and COUNTERS_READ (R100). -/

namespace Sys2Proof.Machine

/-- The credit limits after QUEUE_SET (R101). -/
def takeCreditLimit (x : Option Nat) (c : Credit) : Credit := { c with limit := (x.map (min 64)).getD c.limit }
def takeCreditLimits (f : PerClass (Option Nat)) (c : PerClass Credit) : PerClass Credit :=
  ⟨takeCreditLimit f.t c.t, takeCreditLimit f.c c.c, takeCreditLimit f.s c.s, takeCreditLimit f.b c.b⟩
/-- A queue limit after QUEUE_SET (R101). -/
def takeQueueLimit (x : Option Nat) (old : Nat) : Nat := (x.map (clampNat 1 256)).getD old
/-- The port settings after QUEUE_SET (R101). -/
def takePort (f : QueueFields) (p : Port) : Port :=
  { p with
    limits := ⟨takeQueueLimit f.queue.t p.limits.t, takeQueueLimit f.queue.c p.limits.c,
      takeQueueLimit f.queue.s p.limits.s, takeQueueLimit f.queue.b p.limits.b⟩
    sQuantum := (f.sQuantum.map (clampNat 1 24)).getD p.sQuantum
    bQuantum := (f.bQuantum.map (clampNat 1 24)).getD p.bQuantum }
/-- QUEUE_SET on one slot. -/
def queueSetSlot (f : QueueFields) (n : SlotId) (s : State) : State :=
  (s.setCredits n (takeCreditLimits f.credit s.buffer.credits[n])).setPort n (takePort f s.buffer.ports[n])
/-- The reply to QUEUE_SET: the limits and quanta of a slot. -/
def queueSetReply (s : State) (n : SlotId) : List Byte :=
  let c := s.buffer.credits[n]
  let p := s.buffer.ports[n]
  be8 c.t.limit ++ be8 c.c.limit ++ be8 c.s.limit ++ be8 c.b.limit ++ be16 p.limits.t ++ be16 p.limits.c
    ++ be16 p.limits.s ++ be16 p.limits.b ++ be8 p.sQuantum ++ be8 p.bQuantum
/-- QUEUE_SET on a slot or on ALL, slot byte 0 (R101, R182); the arbiter runs after it (R102). -/
def queueSet (tag : Byte) (f : QueueFields) (s : State) : State :=
  if f.slot = 0 then
    let s := eachSlot (queueSetSlot f) allSlots s
    runArbiter (accept 20 tag (queueSetReply s 0) s)
  else
    withSlot 20 tag f.slot (fun n s =>
      let s := queueSetSlot f n s
      runArbiter (accept 20 tag (queueSetReply s n) s)) s
def execQueueSet (tag : Byte) (body : Body QueueFields) (s : State) : Out State :=
  runRequest (.queueSet tag body) 20 tag body (queueSet tag) s

/-! ### COUNTERS_READ (R100) -/

/-- The free, stored and outstanding counts. -/
def poolBytes (b : Buffer) : List Byte := be16 b.free ++ be16 (storedBlocks b) ++ be16 (outstandingBlocks b)
/-- The reply in mode COUNTERS (R100): each per-slot counter for the twelve slots in turn, the part-wide counters in the order
of R99, the management frames discarded, then the pool. R100 gives no order. DESIGN CHOICE (log 12). -/
def countersReply (s : State) : List Byte :=
  let c := s.buffer.counters
  (allSlots.flatMap fun n => be32 c.perSlot[n].accepted) ++ (allSlots.flatMap fun n => be32 c.perSlot[n].sent)
    ++ (allSlots.flatMap fun n => be32 c.perSlot[n].discarded)
    ++ be32 c.badPacket ++ be32 c.creditOverrun ++ be32 c.noRoute ++ be32 c.retiring ++ be32 c.classBarred
    ++ be32 c.forbidden ++ be32 c.queueLimit ++ be32 c.skipped ++ be32 s.mgmt.discarded ++ poolBytes s.buffer
/-- Every counter is set to 0. -/
def zeroCounters (s : State) : State :=
  let s := s.setCounters Counters.zero
  { s with mgmt := { s.mgmt with discarded := 0 } }
def execCountersReadCounters (tag : Byte) (body : Body Unit) (s : State) : Out State :=
  runRequest (.countersReadCounters tag body) 21 tag body
    (fun _ s => zeroCounters (accept 21 tag (countersReply s) s)) s
/-- The reply in mode BUFFER. -/
def bufferReply (s : State) (n : SlotId) : List Byte :=
  let p := s.buffer.ports[n]
  poolBytes s.buffer
    ++ (allClasses.flatMap fun k => be8 (perClass s.buffer.credits[n] k).limit
      ++ be8 (perClass s.buffer.credits[n] k).outstanding)
    ++ (allClasses.flatMap fun k => be16 (perClass p.limits k) ++ be16 (occupancy p k))
    ++ be8 p.sQuantum ++ be8 p.bQuantum ++ be8 p.sDeficit ++ be8 p.bDeficit
def execCountersReadBuffer (tag : Byte) (body : Body Nat) (s : State) : Out State :=
  runRequest (.countersReadBuffer tag body) 21 tag body
    (fun k => withSlot 21 tag k (fun n s => accept 21 tag (bufferReply s n) s)) s

end Sys2Proof.Machine
end

