-- ==== Sys2Proof/Machine/Link.lean ====
section
/-! DEFINITION. The commands of the management line (R168 to R170, R173, R177): bytes and frames received, discards, and the end
of a frame's transmission. -/

namespace Sys2Proof.Machine

def State.setReceiver (s : State) (r : Receiver) : State := { s with mgmt := { s.mgmt with receiver := r } }
/-- A frame in reception is discarded (R169). -/
def discardFrame (s : State) : State := countDiscardedFrame (s.setReceiver .hunt)
/-- A frame that has begun is discarded; in HUNT none has begun, and nothing is counted (R169). -/
def discardBegun (s : State) : State :=
  match s.mgmt.receiver with
  | .hunt => s
  | .frame _ => discardFrame s
/-- A whole frame arrives (R170): it joins the request queue, or is refused QUEUE_FULL in a free reply place, or is discarded
unanswered. -/
def arrive (f : Frame) (s : State) : State :=
  if s.mgmt.requests.length < 4 then { s with mgmt := { s.mgmt with requests := s.mgmt.requests ++ [f] } }
  else if repliesQueued s.mgmt < 4 then refuse f.kind.toNat f.tag .queueFull s
  else countDiscardedFrame s
/-- The frame in the bytes after SYNC, where the last two are its CRC (R168, R183). -/
def frameIn (bytes : List Byte) : Frame := ⟨bytes.getD 1 0, bytes.getD 2 0, (bytes.drop 3).take (bytes.length - 5)⟩
/-- The CRC received agrees with the CRC computed (R168). -/
def crcAgrees (bytes : List Byte) : Bool :=
  bytes.drop (bytes.length - 2) == be16 (crc16 (bytes.take (bytes.length - 2))).toNat
/-- A byte joins the frame in reception (R169). -/
def takeFrameByte (bytes : List Byte) (s : State) : State :=
  let len := (bytes.headD 0).toNat
  if 250 < len then discardFrame s
  else if bytes.length < len + 5 then s.setReceiver (.frame bytes)
  else if crcAgrees bytes then arrive (frameIn bytes) (s.setReceiver .hunt)
  else discardFrame s

/-- MGMT_BYTE_RECEIVED: a byte arrives with its stop bit (R169). -/
def execMgmtByteReceived (b : Byte) (s : State) : Out State :=
  .next (match s.mgmt.receiver with
    | .hunt => if b = 0xA5 then s.setReceiver (.frame []) else s
    | .frame bytes => takeFrameByte (bytes ++ [b]) s)
/-- MGMT_FRAME_ARRIVAL: a frame becomes whole, its bytes still to come included: those taken so far are its first ones
(R169, R170). -/
def execMgmtFrameArrival (f : Frame) (s : State) : Out State :=
  let taken := match s.mgmt.receiver with
    | .hunt => []
    | .frame bytes => bytes
  .next (if f.payload.length ≤ 250 ∧ taken.isPrefixOf (f.bytes.drop 1) = true then arrive f (s.setReceiver .hunt) else s)
/-- MGMT_FRAME_DISCARD: a frame that has begun is discarded at a byte, for any of the three causes (R169). -/
def execMgmtFrameDiscard (_cause : DiscardCause) (s : State) : Out State := .next (discardBegun s)
/-- MGMT_INTER_BYTE_TIMEOUT: more than 2 ms pass inside a frame that has begun (R169). -/
def execMgmtInterByteTimeout (s : State) : Out State := .next (discardBegun s)

/-- The frame is the ACCEPTED reply to RESTART: its answer byte is 2 and it has no data (R184). -/
def isRestartReply (f : TxFrame) : Bool := f.isReply && f.frame.payload == [2]
/-- MGMT_FRAME_TRANSMIT_END: the oldest frame of the transmit queue has been sent (R173); with the RESTART reply the part is
to restart (R177). -/
def execMgmtFrameTransmitEnd (s : State) : Out State :=
  .next (match s.mgmt.transmit with
    | [] => s
    | f :: rest =>
      if s.mgmt.restart = .replySent then s
      else { s with mgmt := { s.mgmt with
        transmit := rest
        restart := if s.mgmt.restart = .replyPlaced ∧ isRestartReply f = true then .replySent else s.mgmt.restart } })

end Sys2Proof.Machine
end

