-- ==== Sys2Proof/Machine/Packets.lean ====
section
/-! DEFINITION. The commands of the packet lanes (R65, R66, R87 to R94): a packet's first block, its end, the end of a
transmission and the credit messages. -/

namespace Sys2Proof.Machine

/-- The class of a packet, from its first block (R185). -/
def packetClass (block : List Byte) : TrafficClass := classOf (byteAt block 2)
/-- The length field of a packet (R185). -/
def packetLength (block : List Byte) : Nat := byteAt block 3

/-- PACKET_RECEPTION_START: the first block of a packet arrives on a lane that is UP, and the reception records the
outstanding credit o of its class (R65, R88). A first block inside a packet in reception is not one (log 7). -/
def execPacketReceptionStart (n : SlotId) (block : List Byte) (s : State) : Out State :=
  .next (if s.lanes[n].status = .up ∧ s.lanes[n].reception = none then
      s.setLane n { s.lanes[n] with
        reception := some ⟨block, (perClass s.buffer.credits[n] (packetClass block)).outstanding⟩ }
    else s)

/-- Blocks of a reception leave the outstanding count of their class and not the unsent count (R85), which a card that spends
credit not yet carried to it leaves above the outstanding one. DESIGN CHOICE (log 33). -/
def spendCredit (n : SlotId) (k : TrafficClass) (blocks : Nat) (s : State) : State :=
  let c := perClass s.buffer.credits[n] k
  s.setCredits n (setClass s.buffer.credits[n] k ⟨c.limit, c.outstanding - blocks, c.unsent⟩)
/-- Blocks of a reception return to the free pool: the discard move of R83. -/
def returnBlocks (n : SlotId) (k : TrafficClass) (blocks : Nat) (s : State) : State :=
  let moved := min blocks (perClass s.buffer.credits[n] k).outstanding
  let s := spendCredit n k moved s
  { s with buffer := { s.buffer with free := s.buffer.free + moved } }
/-- A packet is discarded whole: its reason and its sender's discarded counter count (R89, R99). -/
def discardPacket (n : SlotId) (d : Discard) (s : State) : State := countDiscardedPacket n (countDiscards d 1 s)

/-- A packet that a Lane Port check refuses (R65, R89): its placed blocks return. -/
def badPacket (n : SlotId) (k : TrafficClass) (placed : Nat) (s : State) : State :=
  runArbiter (returnBlocks n k placed (discardPacket n .badPacket s))
/-- A packet that overruns its sender's credit (R89). -/
def overrunPacket (n : SlotId) (s : State) : State :=
  raiseEvent .creditViolation (.slot n) 0 .minor (discardPacket n .creditOverrun s)
/-- A packet whose lookup gave copies, at the queue limit check (R90). -/
def storeCopies (n : SlotId) (k : TrafficClass) (len : Nat) (dests : List SlotId) (bytes : List Byte) (s : State) :
    State :=
  let ok := dests.filter (queueAccepts s k len)
  let s := countDiscards .queueLimit (dests.length - ok.length) s
  if ok = [] then runArbiter (returnBlocks n k len (countDiscardedPacket n s))
  else runArbiter (storePacket k len (some n) ok bytes (spendCredit n k len (countAccepted n s)))
/-- A packet that has arrived within its sender's credit, at the lookup (R66, R89). -/
def routePacket (n : SlotId) (k : TrafficClass) (len : Nat) (block bytes : List Byte) (s : State) : State :=
  match lookup s n (byteAt block 0) k len block with
  | .taken r => runArbiter (takeReport n r (returnBlocks n k 1 (countAccepted n s)))
  | .refused .forbidden f => runArbiter (returnBlocks n k len (countDiscardedPacket n (noteForbidden n f s)))
  | .refused d _ => runArbiter (returnBlocks n k len (discardPacket n d s))
  | .copies dests f => storeCopies n k len dests bytes (noteForbidden n f s)

/-- The three checks of the Lane Port (R65). -/
def framingGood (blocks : List Byte) (count : Nat) (trailer : BitVec 32) : Bool :=
  crc32 blocks == trailer && 1 ≤ packetLength blocks && packetLength blocks ≤ 24 && packetLength blocks == count
/-- A reception ends at its trailer, with the blocks after the first one (R65, R66, R89). -/
def endReception (n : SlotId) (r : Reception) (rest : List Byte) (trailer : BitVec 32) (s : State) : State :=
  let blocks := r.block ++ rest
  let count := blocks.length / 64
  let k := packetClass r.block
  let len := packetLength r.block
  if framingGood blocks count trailer then
    if r.credit < len then overrunPacket n s else routePacket n k len r.block (blocks ++ be32 trailer.toNat) s
  else badPacket n k (min r.credit count) s
/-- PACKET_TRAILER: a packet in reception ends, with the blocks after its first and its trailer. -/
def execPacketTrailer (n : SlotId) (rest : List Byte) (trailer : BitVec 32) (s : State) : Out State :=
  .next (match s.lanes[n].reception with
    | some r => endReception n r rest trailer (s.setLane n { s.lanes[n] with reception := none })
    | none => s)
/-- PACKET_OVERLENGTH: the 25th block arrives before a trailer (R65); of the 25 blocks, those within o were placed. -/
def execPacketOverlength (n : SlotId) (s : State) : Out State :=
  .next (match s.lanes[n].reception with
    | some r => badPacket n (packetClass r.block) (min r.credit 25) (s.setLane n { s.lanes[n] with reception := none })
    | none => s)

/-- TRANSMISSION_END: the copy in transmission has gone out (R94), and the drain-end test is made (R16, R91). -/
def execTransmissionEnd (n : SlotId) (s : State) : Out State :=
  .next (if s.buffer.ports[n].sending.isSome then withBudget (fun s => drainTest n (endTransmission n s)) s else s)
/-- CREDIT_MESSAGE_SEND: an idle lane that is UP carries the unsent credit of every class to the card (R87). -/
def execCreditMessageSend (n : SlotId) (s : State) : Out State :=
  .next (if s.lanes[n].status = .up ∧ s.buffer.ports[n].sending = none then sendCredits n s else s)

end Sys2Proof.Machine
end

