-- ==== Sys2Proof/Machine/PartRequests.lean ====
section
/-! DEFINITION. PART_INFO, RESTART and a frame whose KIND is no request kind (R171, R176, R177). -/

namespace Sys2Proof.Machine

/-- The baud rate of a line rate (R168). -/
def LineRate.baud : LineRate → Nat
  | .baud115200 => 115200 | .baud921600 => 921600
/-- The reply to PART_INFO (R176). -/
def partInfoReply (s : State) : List Byte :=
  be16 Config.vendorCode.toNat ++ be16 Config.partCode.toNat ++ be8 Config.revisionMajor.toNat
    ++ be8 Config.revisionMinor.toNat ++ be32 (LineRate.baud s.mgmt.lineRate)
    ++ be8 (ResetCause.number s.mgmt.resetCause) ++ frameBytes s.mgmt.resetFrame
def execPartInfo (tag : Byte) (body : Body Unit) (s : State) : Out State :=
  runRequest (.partInfo tag body) 1 tag body (fun _ s => accept 1 tag (partInfoReply s) s) s
/-- RESTART: its reply is placed, and no further request is executed until it has been sent (R177). -/
def execRestart (tag : Byte) (body : Body Unit) (s : State) : Out State :=
  runRequest (.restart tag body) 2 tag body
    (fun _ s =>
      let s := accept 2 tag [] s
      { s with mgmt := { s.mgmt with restart := .replyPlaced } }) s
/-- UNKNOWN_KIND_REQUEST: a frame whose KIND is none of the 31 request kinds is refused (R171). -/
def execUnknownKindRequest (kind tag : Byte) (s : State) : Out State :=
  .next (match takeRequest (.unknownKindRequest kind tag) s with
    | some s => refuse kind.toNat tag .unknownKind s
    | none => s)

end Sys2Proof.Machine
end

