-- ==== Sys2Proof/Machine/PatternRequests.lean ====
section
/-! DEFINITION. PATTERN_STAGE and PATTERN_READ (R141, R143, R144, R151). -/

namespace Sys2Proof.Machine

/-! ### Tests of a pattern (R141, R143) -/

/-- A window has start < end ≤ 1,228,800. -/
def windowGood (w : Window) : Bool := w.start < w.stop && w.stop ≤ Config.frameTicks
/-- The starts are in ascending order. -/
def startsAscend : List Window → Bool
  | a :: b :: r => a.start < b.start && startsAscend (b :: r)
  | _ => true
/-- Each gap between a window and the next is greater than 2G. -/
def gapsGood (g : Nat) : List Window → Bool
  | a :: b :: r => a.stop + 2 * g < b.start && gapsGood g (b :: r)
  | _ => true
/-- The gap from the last window of one list to the first of the next frame's is greater than a number of ticks; with no
window there is no gap. -/
def wrapGapGood (ticks : Nat) (last : Option Window) (first : Option Window) : Bool :=
  match last, first with
  | some l, some f => l.stop + ticks < f.start + Config.frameTicks
  | _, _ => true
/-- A pattern is valid (R141). -/
def Pattern.valid (p : Pattern) : Bool :=
  gapsGood p.guardTime p.windows && wrapGapGood (2 * p.guardTime) p.windows.getLast? p.windows.head?
/-- The target is at least 2 frames ahead (R143). -/
def targetGood (cfc target : FrameCount) : Bool :=
  2 ≤ (target - cfc).toNat && (target - cfc).toNat < 2147483648
/-- The pattern that a PATTERN_STAGE carries, its guard clamped or that of the active pattern (R143). -/
def stagedOf (s : State) (f : PatternFields) : Pattern :=
  ⟨f.number, f.windows.map fun w => ⟨w.1, w.2⟩, (f.guardTime.map (min 16383)).getD s.gates.active.guardTime⟩
/-- The tests of PATTERN_STAGE that are refused BAD_FIELD (R143). -/
def patternGood (s : State) (p : Pattern) (target : FrameCount) : Bool :=
  p.number ≤ 255 && p.windows.length ≤ 8 && p.windows.all windowGood && startsAscend p.windows && p.valid
    && wrapGapGood (s.gates.active.guardTime + p.guardTime) s.gates.active.windows.getLast? p.windows.head?
    && targetGood s.tb.cfc target

/-- A pattern: number, windows and guard. -/
def patternBytes (p : Pattern) : List Byte :=
  be8 p.number ++ beList (fun w : Window => be32 w.start ++ be32 w.stop) p.windows ++ be16 p.guardTime
/-- PATTERN_STAGE (R143). -/
def patternStage (tag : Byte) (f : PatternFields) (s : State) : State :=
  let p := stagedOf s f
  let target : FrameCount := BitVec.ofNat 32 f.target
  if patternGood s p target then
    if patternDue s then refuse 26 tag .wrongState s
    else accept 26 tag (patternBytes p ++ frameBytes target ++ frameBytes s.tb.cfc)
      { s with gates := { s.gates with staged := some (p, target) } }
  else refuse 26 tag .badField s
def execPatternStage (tag : Byte) (body : Body PatternFields) (s : State) : Out State :=
  runRequest (.patternStage tag body) 26 tag body (patternStage tag) s

/-! ### PATTERN_READ (R151) -/

/-- The reply in mode PATTERNS. The staged pattern, its target and whether it is due are one optional field. DESIGN CHOICE
(log 12). -/
def patternsReply (s : State) : List Byte :=
  frameBytes s.tb.cfc ++ be32 s.tb.p ++ patternBytes s.gates.active
    ++ beOpt (fun p : Pattern × FrameCount => patternBytes p.1 ++ frameBytes p.2 ++ beFlag (patternDue s)) 9 s.gates.staged
    ++ be8 s.gates.settle ++ beFlag s.gates.maintenance
def execPatternReadPatterns (tag : Byte) (body : Body Unit) (s : State) : Out State :=
  runRequest (.patternReadPatterns tag body) 27 tag body (fun _ s => accept 27 tag (patternsReply s) s) s
/-- An occurrence: its slot frame, and its place in the list counted from 1. -/
def occurrenceBytes (o : Occurrence) : List Byte := frameBytes o.frame ++ be8 (o.place + 1)
/-- The reply in mode SLOT. The approached window is one optional field. DESIGN CHOICE (log 12). -/
def patternSlotReply (s : State) (n : SlotId) : List Byte :=
  let g := s.gates.slots[n]
  frameBytes s.tb.cfc ++ be32 s.tb.p ++ beFlag g.txg ++ beFlag (rxg s n) ++ be32 g.guardHold
    ++ beOpt occurrenceBytes 5 g.approached
    ++ beOpt be32 4 (if aligned s n then some (slotPosition s n).1 else none)
    ++ beOpt frameBytes 4 (if aligned s n then some (slotPosition s n).2 else none)
    ++ beList be8 (failing 0 (transmitConditions s n))
def execPatternReadSlot (tag : Byte) (body : Body Nat) (s : State) : Out State :=
  runRequest (.patternReadSlot tag body) 27 tag body
    (fun k => withSlot 27 tag k (fun n s => accept 27 tag (patternSlotReply s n) s)) s

end Sys2Proof.Machine
end

