-- ==== Sys2Proof/Machine/SlotEvents.lean ====
section
/-! DEFINITION. The commands of a slot's inputs, timers and lane (R7 to R27, R179, R180), and the block completion of an
identity read (R35 to R43). An event whose hold, window, limit or wait is not in flight has nothing to act on (log 7). -/

namespace Sys2Proof.Machine

/-! ### Filters (R7) -/

/-- A hold starts when the raw input differs from the filtered level, and is abandoned when it returns (R7). -/
def holdAfter (raw level : Bool) (s : State) : Option Timer :=
  if raw = level then none else some (startTimerMs s s.sc.debounce)

/-- PRESENT_RAW_CHANGE: the raw PRESENT input takes its other level (R7). -/
def execPresentRawChange (n : SlotId) (s : State) : Out State :=
  .next (s.updSlot n fun r => { r with
    presentRaw := !r.presentRaw
    presentHold := holdAfter (!r.presentRaw) r.present s })
/-- LATCH_RAW_CHANGE: the raw LATCH input takes its other level (R7). -/
def execLatchRawChange (n : SlotId) (s : State) : Out State :=
  .next (s.updSlot n fun r => { r with
    latchRaw := !r.latchRaw
    latchHold := holdAfter (!r.latchRaw) r.latchClosed s })

/-! ### PRESENT (R8, R10, R17 to R20, R22) -/

/-- The filtered change of PRESENT to absent, by state. The ALARM notice of SURPRISE_REMOVAL is the last one of its teardown.
DESIGN CHOICE (log 32). -/
def presentGone (n : SlotId) (s : State) : State :=
  let s := abortRead n s
  match s.slots[n].state with
  | .empty => s
  | .detected | .identifying | .poweredDown | .faulted _ => gotoState n .empty s
  | .awaiting _ => gotoState n .empty (withdrawIdentity n s)
  | .shed => gotoState n .empty (leaveShedList n s)
  | .poweringOff _ => powerOffCompletion n s
  | .powering | .training | .active | .draining _ | .recovering =>
    raiseEvent .surpriseRemoval (.slot n) 0 .minor (teardown n .empty (leaveShedList n s))
/-- PRESENT_FILTERED_CHANGE: the hold has lasted the debounce time, and the state machine acts on the new level. -/
def execPresentFilteredChange (n : SlotId) (s : State) : Out State :=
  .next (if s.slots[n].presentHold.isSome then
      withBudget (fun s =>
        let arrived := !s.slots[n].present
        let s := s.updSlot n fun r => { r with present := arrived, presentHold := none }
        if arrived then if s.slots[n].state = .empty then toDetected n s else s
        else presentGone n s) s
    else s)

/-! ### LATCH (R8, R10, R13 to R19, R27) -/

/-- The filtered change of LATCH to closed, by state. -/
def latchClosing (n : SlotId) (s : State) : State :=
  match s.slots[n].state with
  | .detected => tryIdentify n s
  | .poweredDown => toDetected n s
  | .empty | .identifying | .awaiting _ | .powering | .training | .active | .draining _ | .poweringOff _ | .shed
  | .faulted _ | .recovering => s
/-- The filtered change of LATCH to open, by state; it aborts any read in flight (R42) and ends the restoring slot's hold
where it returns that slot to DETECTED (R51). -/
def latchOpening (n : SlotId) (s : State) : State :=
  let s := abortRead n s
  match s.slots[n].state with
  | .detected | .identifying => gotoState n .detected (endRestoring n s)
  | .awaiting _ => gotoState n .detected (withdrawIdentity n (endRestoring n s))
  | .powering | .training | .recovering => teardownOff n .normal s
  | .active => drainStart n .normal s.sc.drain s
  | .draining _ => gotoState n (.draining .normal) (leaveShedList n s)
  | .poweringOff _ => gotoState n (.poweringOff .normal) (leaveShedList n s)
  | .shed => gotoState n .poweredDown (leaveShedList n s)
  | .empty | .poweredDown | .faulted _ => s
/-- LATCH_FILTERED_CHANGE: while no card is present the new level is only recorded (R7). -/
def execLatchFilteredChange (n : SlotId) (s : State) : Out State :=
  .next (if s.slots[n].latchHold.isSome then
      withBudget (fun s =>
        let closing := !s.slots[n].latchClosed
        let s := s.updSlot n fun r => { r with latchClosed := closing, latchHold := none }
        if s.slots[n].present then if closing then latchClosing n s else latchOpening n s else s) s
    else s)

/-! ### PWR_GOOD (R7, R13, R17, R23, R27) -/

/-- PWR_GOOD_ASSERT: where the inrush window is open (POWERING, and RECOVERING before training), the 5 ms hold starts. -/
def execPwrGoodAssert (n : SlotId) (s : State) : Out State :=
  .next (if s.slots[n].pwrGood then s
    else s.updSlot n fun r => { r with
      pwrGood := true
      goodHold := if r.inrushWindow.isSome then some (startTimerMs s 5) else r.goodHold })
/-- PWR_GOOD_HOLD_COMPLETE: POWERING goes to TRAINING (R13); in RECOVERING the training starts once the read has completed
too (R27). -/
def execPwrGoodHoldComplete (n : SlotId) (s : State) : Out State :=
  .next (if s.slots[n].goodHold.isSome then
      withBudget (fun s =>
        match s.slots[n].state with
        | .powering => enterTraining n s
        | .recovering =>
          let s := s.updSlot n fun r => { r with goodHold := none, holdDone := true }
          if s.slots[n].readDone then startLaneTraining n s else s
        | .empty | .detected | .identifying | .awaiting _ | .training | .active | .draining _ | .poweringOff _
        | .poweredDown | .shed | .faulted _ => s) s
    else s)
/-- A power loss (R23). -/
def powerLoss (n : SlotId) (s : State) : State := teardown n (.faulted .powerLost) (leaveShedList n s)
/-- PWR_GOOD_DEASSERT, by state. -/
def execPwrGoodDeassert (n : SlotId) (s : State) : Out State :=
  .next (if s.slots[n].pwrGood then
      withBudget (fun s =>
        let s := s.updSlot n fun r => { r with pwrGood := false }
        match s.slots[n].state with
        | .powering => s.updSlot n fun r => { r with goodHold := none }
        | .training | .active | .draining _ | .recovering => powerLoss n s
        | .poweringOff _ => powerOffCompletion n s
        | .empty | .detected | .identifying | .awaiting _ | .poweredDown | .shed | .faulted _ => s) s
    else s)

/-! ### Windows, limits and waits -/

/-- INRUSH_WINDOW_EXPIRY (R13, R27). -/
def execInrushWindowExpiry (n : SlotId) (s : State) : Out State :=
  .next (if s.slots[n].inrushWindow.isSome then withBudget (teardown n (.faulted .inrushTimeout)) s else s)
/-- LANE_TRAINING_LIMIT_EXPIRY (R14, R27). -/
def execLaneTrainingLimitExpiry (n : SlotId) (s : State) : Out State :=
  .next (if s.slots[n].trainLimit.isSome then withBudget (teardown n (.faulted .laneTrainFail)) s else s)
/-- LANE_UP (R14, R27, R179). -/
def execLaneUp (n : SlotId) (s : State) : Out State :=
  .next (if s.lanes[n].status = .training then withBudget (serviceStart n) s else s)
/-- DRAIN_LIMIT_EXPIRY (R16). -/
def execDrainLimitExpiry (n : SlotId) (s : State) : Out State :=
  .next (if s.slots[n].drainLimit.isSome then withBudget (drainEnd n) s else s)
/-- LANE_QUIET_MARKER: a marker in any state but DRAINING is ignored (R180). -/
def execLaneQuietMarker (n : SlotId) (s : State) : Out State :=
  .next (if s.slots[n].state.isDraining then
      withBudget (fun s => drainTest n (s.setLane n { s.lanes[n] with quiet := true })) s
    else s)
/-- POWER_OFF_WAIT_EXPIRY: POWER_STUCK is raised and the slot goes on as though power had fallen (R17). -/
def execPowerOffWaitExpiry (n : SlotId) (s : State) : Out State :=
  .next (if s.slots[n].offWait.isSome then
      withBudget (fun s => powerOffCompletion n (raiseEvent .powerStuck (.slot n) 0 .major s)) s
    else s)

/-! ### The block completion of an identity read -/

/-- The fault reason of an admission read's outcome (R9, R41). -/
def faultOf : ReadOutcome → FaultReason
  | .idUnreadable | .good => .idUnreadable
  | .idFormat => .idFormat
  | .addressConflict => .addressConflict
  | .routeTableFull => .routeTableFull
/-- The identity record of a slot is replaced, with the suggestion of a good read (R5, R9, R27). -/
def setIdentity (n : SlotId) (rec_ : Identity) (st : ReadStatus) (block : Option Nat) (s : State) : State :=
  s.updSlot n fun r => takeSuggestion rec_ { r with identity := some ⟨rec_, st, block⟩ }
/-- The slot enters AWAITING(APPROVAL), and is admitted at once under AUTO or a waived approval (R9, R11). -/
def enterAwaiting (n : SlotId) (s : State) : State :=
  let s := gotoState n (.awaiting .approval) s
  if s.slots[n].policy = .auto ∨ s.slots[n].waived = true then admitSlot n s else s
/-- Two address lists are the same set (R43). -/
def sameAddresses (a b : List Nat) : Bool := a.all b.contains && b.all a.contains
/-- The end of a failed read, by purpose (R9, R27, R44). -/
def readFailed (n : SlotId) (p : ReadPurpose) (o : ReadOutcome) (st : ReadStatus) (block : Option Nat)
    (check : Option CheckName) (s : State) : State :=
  let s := endRead n p o st block check s
  match p with
  | .admission => gotoState n (.faulted (faultOf o)) s
  | .recovery => teardown n (.faulted .idChanged) s
  | .host => tryIdentify n s
/-- A valid record of an admission read: the reservation, the end of the read, AWAITING or FAULTED (R40, R41, R9). -/
def admissionValid (n : SlotId) (rec_ : Identity) (st : ReadStatus) (block : Option Nat) (s : State) : State :=
  match reserve n rec_.addresses s with
  | (.good, s) => enterAwaiting n (setIdentity n rec_ st block (endRead n .admission .good st block none s))
  | (o, s) => readFailed n .admission o st block none s
/-- A valid record of a recovery read: the comparison with the kept record (R43, R27). A new record of the same serial that
declares another draw leaves declared draw counted as it was. DEDUCED (log 39). -/
def recoveryValid (n : SlotId) (rec_ : Identity) (st : ReadStatus) (block : Option Nat) (s : State) : State :=
  match cardOf s n with
  | some kept =>
    if kept.serial = rec_.serial then
      if sameAddresses kept.addresses rec_.addresses then
        let s := setIdentity n rec_ st block (endRead n .recovery .good st block none s)
        let s := gateFollow n (s.updSlot n fun r => { r with readDone := true })
        if s.slots[n].holdDone then startLaneTraining n s else s
      else readFailed n .recovery .idFormat st block (some .addressChanged) s
    else teardown n (.faulted .idChanged) (setIdentity n rec_ st block (endRead n .recovery .good st block none s))
  | none => teardown n (.faulted .idChanged) (setIdentity n rec_ st block (endRead n .recovery .good st block none s))
/-- The end of a block completion (R35, R37 to R39). -/
def readProgress (n : SlotId) (p : ReadPurpose) (r : ReadContext) (g : ReadProgress) (s : State) : State :=
  let s := s.setReader n r
  match g with
  | .going => s
  | .unreadable k => readFailed n p .idUnreadable .uncorrectable (some k) none s
  | .badFormat c => readFailed n p .idFormat (statusOf r) r.corrected (some c) (noteCorrected n r s)
  | .valid rec_ =>
    let s := noteCorrected n r s
    match p with
    | .admission => admissionValid n rec_ (statusOf r) r.corrected s
    | .recovery => recoveryValid n rec_ (statusOf r) r.corrected s
    | .host => tryIdentify n (endRead n .host .good (statusOf r) r.corrected none s)
/-- IDENTITY_BLOCK_COMPLETION: a transfer completes with what the service line gave. -/
def execIdentityBlockCompletion (n : SlotId) (answer : Option IdBlock) (s : State) : Out State :=
  .next (match s.readers[n].line with
    | none => s
    | some p =>
      let c := completeBlock answer s.readers[n]
      withBudget (readProgress n p c.1 c.2) s)

end Sys2Proof.Machine
end

