-- ==== Sys2Proof/Machine/Resets.lean ====
section
/-! DEFINITION. FULL_RESET and RESTART_TAKE_EFFECT: what each block's reset rule makes of its state, what follows it in the same
step, and then the rebuild of the alarm table (R167) and the notices (R177). -/

namespace Sys2Proof.Machine

/-! ### FULL_RESET -/

/-- A slot record after a full reset (R6): its pins go on showing their levels, and a hold starts where a raw level differs
from the filtered one (R7). -/
def resetSlot (r : SlotRec) : SlotRec :=
  let hold (raw : Bool) : Option Timer := if raw then some ⟨0, SlotControl.reset.debounce * Config.msTicks⟩ else none
  { SlotRec.reset with
    pwrGood := r.pwrGood
    presentRaw := r.presentRaw
    presentHold := hold r.presentRaw
    latchRaw := r.latchRaw
    latchHold := hold r.latchRaw }
/-- An input record after a full reset (R152): its pin goes on showing its level (R153). -/
def resetInput (r : InputRec) : InputRec :=
  { InputRec.reset with
    raw := r.raw
    hold := if r.raw then none else some ⟨false, ⟨0, InputRec.reset.debounce * Config.msTicks⟩⟩ }
/-- An edge filter after a full reset (R107): its input goes on showing its level. -/
def resetFilter (f : EdgeFilter) : EdgeFilter := ⟨false, 0, f.raw⟩
/-- Every block at its values after a full reset, before PART_RESTARTED is raised. -/
def resetBlocks (cause : ResetCause) (strap : LineRate) (s : State) : State :=
  { State.reset with
    slots := mapEach resetSlot s.slots
    tb := { Timebase.reset with extFilter := resetFilter s.tb.extFilter, teFilters := mapEach resetFilter s.tb.teFilters }
    alarms := { Alarms.reset with inputs := mapEach resetInput s.alarms.inputs, table := [] }
    mgmt := { Mgmt.reset with transmit := [], lineRate := strap, resetCause := cause }
    pending := s.pending }
/-- FULL_RESET: every block returns to its defaults, and PART_RESTARTED is raised with the cause (R6, R33, R46, R82, R83,
R104, R125, R142, R152, R167, R178). -/
def execFullReset (cause : ResetCause) (strap : LineRate) (s : State) : Out State :=
  .next (raiseEvent .partRestarted .part (ResetCause.number cause) .warning (resetBlocks cause strap s))

/-! ### The blocks' RESTART rules -/

/-- The state of a slot after a RESTART (R26). A slot in RECOVERING stays there. DESIGN CHOICE (log 15). -/
def restartState (r : SlotRec) : SlotState :=
  match r.state with
  | .powering | .training | .active | .recovering => .recovering
  | .draining p => .poweringOff p
  | .poweringOff p => .poweringOff p
  | .detected | .identifying | .awaiting _ => if r.present then .detected else .empty
  | .poweredDown => if r.present then .poweredDown else .empty
  | .shed => if r.present then .shed else .empty
  | .faulted f => if r.present then .faulted f else .empty
  | .empty => .empty
/-- The timers, the output and the flags of a slot record by its new state: RECOVERING opens the inrush window and the 5 ms
hold (R27), DRAINING starts the power-off wait, POWERING_OFF runs on with its own (R26). -/
def restartTimers (s : State) (old : SlotRec) (r : SlotRec) : SlotRec :=
  match r.state with
  | .recovering => { r.stopped with
      pwrEn := true
      inrushWindow := some (startTimerMs s s.sc.inrush)
      goodHold := if r.pwrGood then some (startTimerMs s 5) else none }
  | .poweringOff _ => { r.stopped with
      pwrEn := false
      offWait := if old.state.isDraining then some (startTimerMs s 500) else r.offWait }
  | .empty | .detected | .identifying | .awaiting _ | .powering | .training | .active | .draining _ | .poweredDown
  | .shed | .faulted _ => r.stopped
/-- A slot record after a RESTART (R26). -/
def restartSlot (s : State) (r : SlotRec) : SlotRec :=
  let st := restartState r
  restartTimers s r { r with
    state := st
    lastChange := if st = r.state then r.lastChange else s.tb.cfc
    waived := r.waived && st != .empty
    identity := if st = .empty then none else r.identity }
/-- The Slot Controller's RESTART (R26): the admission queue is emptied. -/
def restartSlots (s : State) : State :=
  { s with slots := mapEach (restartSlot s) s.slots, sc := { s.sc with queue := [] } }
/-- The slot is in RECOVERING. -/
def isRecovering (s : State) (n : SlotId) : Bool := s.slots[n].state == .recovering
/-- The slot is in EMPTY. -/
def isEmpty (s : State) (n : SlotId) : Bool := s.slots[n].state == .empty
/-- The Power Budget Unit's RESTART (R63), before it acts once. -/
def restartBudget (s : State) : State :=
  s.setBudget { s.budget with
    powerOn := allSlots.filter (isRecovering s)
    shedList := s.budget.shedList.filter fun n => !isEmpty s n
    restoring := match s.budget.restoring with
      | some n => if s.slots[n].state = .detected then some n else none
      | none => none }
/-- The reservation of a RECOVERING slot's kept address list (R43), also where the slot was in RECOVERING already. DESIGN CHOICE
(log 15). -/
def restartReserve (n : SlotId) (s : State) : State :=
  match isRecovering s n, cardOf s n with
  | true, some c => (reserve n c.addresses s).2
  | _, _ => s
/-- The Route Table's RESTART (R82, R43). -/
def restartRoutes (s : State) : State := eachSlot restartReserve allSlots (s.setEntries [])
/-- The Packet Buffer Manager's RESTART (R103): the limits and the quanta are kept. -/
def restartBuffer (b : Buffer) : Buffer where
  free := Config.poolBlocks
  stored := []
  nextId := b.nextId
  credits := mapEach (fun c => ⟨c.t.none, c.c.none, c.s.none, c.b.none⟩) b.credits
  lastServed := ⟨11, 11, 11, 11⟩
  ports := mapEach Port.emptied b.ports
  counters := Counters.zero
/-- The quality after a RESTART (R124). -/
def Quality.afterRestart : Quality → Quality
  | .locked | .acquiring .held | .holdover => .holdover
  | .acquiring .free | .freerun => .freerun
/-- The Timebase Unit's RESTART (R124). -/
def restartTimebase (tb : Timebase) : Timebase :=
  { tb with
    refs := tb.refs.map fun q => RefRec.fresh q.src
    selected := none
    quality := tb.quality.afterRestart
    steer := if tb.quality.afterRestart = .holdover ∧ tb.quality ≠ .holdover then holdoverValue tb.integral else tb.steer
    stepPending := false
    switchPending := false
    goodCount := 0
    jumpCount := 0 }
/-- A timing record after a RESTART (R140): a measurement in flight ends, its attempt in progress is aborted (R129), and its
staged values are dropped. Staged values of a TRIM_SET without a measurement are kept: DEDUCED (log 22). FP, with a probe
pulse in progress, and the probe frame stay as they are: DEDUCED (log 26). -/
def restartTiming (recovering : Bool) (r : TimingRec) : TimingRec :=
  if recovering && r.state == .aligned then
    { r with
      measuring := none
      probeDue := false
      staged := if r.measuring.isSome then none else r.staged
      lastAttempt := lastAfterEnd r }
  else { TimingRec.reset with trim := r.trim }
/-- The Slot Timing Unit's RESTART (R140). -/
def restartTimings (s : State) : State :=
  eachSlot (fun n s => s.setTiming n (restartTiming (isRecovering s n) s.timing[n])) allSlots { s with pulseHold := false }
/-- The Gate Generator's RESTART (R142): a RECOVERING slot that is ALIGNED keeps its gates. -/
def restartGates (s : State) : State :=
  gatesFollow (eachSlot (fun n s => if isRecovering s n && aligned s n then s else gateOff n s) allSlots s)
/-- The Management Port's RESTART (R177). -/
def restartMgmt (s : State) : State :=
  { s with mgmt := { s.mgmt with
    requests := []
    transmit := []
    noticesLost := false
    discarded := 0
    resetCause := .restart
    resetFrame := s.tb.cfc
    restart := .none } }
/-- Every block's RESTART rule but the Alarm Unit's. -/
def restartBlocks (s : State) : State :=
  let s := eachSlot laneDown allSlots (eachSlot abortRead allSlots (restartMgmt s))
  let s := restartRoutes (restartBudget (restartSlots s))
  let s := { s with buffer := restartBuffer s.buffer }
  restartGates (restartTimings (s.setTb (restartTimebase s.tb)))

/-! ### The rebuild of the alarm table (R167) and what follows it -/

/-- An operation on each input of a list in turn. -/
def eachInput (f : InputId → State → State) : List InputId → State → State
  | [], s => s
  | i :: r, s => eachInput f r (f i s)
def rebuildInput (i : InputId) (s : State) : State :=
  if s.alarms.inputs[i].isActive then raiseAlarm .inputActive (.input i) 0 s.alarms.inputs[i].severity s else s
def rebuildBudget (s : State) : State :=
  let s := if s.budget.latch.isSome then raiseAlarm .cutoffActive .part 0 .critical s else s
  let s := if s.budget.episode then raiseAlarm .budgetShedding .part 0 .major s else s
  if s.budget.exceeded then raiseAlarm .budgetExceeded .part 0 .critical s else s
def rebuildFault (n : SlotId) (s : State) : State := raiseFault n s.slots[n].state s
def rebuildUnstable (n : SlotId) (s : State) : State :=
  if s.timing[n].unstableRaised then raiseAlarm .delayUnstable (.slot n) 0 .major s else s
/-- The reports of a slot's set, which is kept ascending. -/
def raiseReports (n : SlotId) : List (Nat × Severity) → State → State
  | [], s => s
  | (c, v) :: r, s => raiseReports n r (raiseAlarm .cardReport (.slot n) c v s)
def rebuildReports (n : SlotId) (s : State) : State := raiseReports n s.routes.reports[n] s
def rebuildTiming (s : State) : State :=
  match s.tb.quality with
  | .holdover => raiseAlarm .timingHoldover .part 0 .major s
  | .freerun => if s.tb.everSelected then raiseAlarm .timingFreerun .part 0 .critical s else s
  | .acquiring _ => s
  | .locked => s
/-- The rebuild of the alarm table (R167), in the order of the code table. -/
def rebuildAlarms (s : State) : State :=
  let s := { s with alarms := { s.alarms with table := [], overflow := false } }
  let s := raiseEvent .partRestarted .part (ResetCause.number .restart) .warning s
  let s := rebuildBudget (eachInput rebuildInput allInputs s)
  rebuildTiming (eachSlot rebuildReports allSlots (eachSlot rebuildUnstable allSlots (eachSlot rebuildFault allSlots s)))
/-- The SLOT notice of a slot whose state the RESTART changed (R26, R177). -/
def rebuildNotice (before : State) (n : SlotId) (s : State) : State :=
  if s.slots[n].state = before.slots[n].state then s else slotNotice n s
/-- A recovery read starts (R34). -/
def startRecovery (n : SlotId) (s : State) : State := if isRecovering s n then startRead n .recovery s else s
/-- A slot that came from DRAINING with PWR_GOOD deasserted already completes its power-off at once (R17). -/
def restartCompletion (before : State) (n : SlotId) (s : State) : State :=
  if before.slots[n].state.isDraining && !s.slots[n].pwrGood then powerOffCompletion n s else s
/-- What follows the blocks' RESTART rules in the same step: recovery reads (R27), power-off completions (R17), admission reads
(R8), and the Power Budget Unit's one act (R63). -/
def restartActs (before : State) (s : State) : State :=
  let s := eachSlot (restartCompletion before) allSlots (eachSlot startRecovery allSlots s)
  settle (eachSlot tryIdentify allSlots s)
/-- The SLOT notices of a transmit queue are handed again, each with its lost-notices field as it now stands. -/
def handSlotNotices : List TxFrame → State → State
  | [], s => s
  | f :: r, s => handSlotNotices r
      (if f.frame.kind = kindSlotNotice then handNotice kindSlotNotice f.frame.payload.dropLast s else s)
/-- The RESTART as a whole, from the state in which its reply has been sent (R177). Everything acts before the rebuild of the
alarm table, which takes no raise or clear of it (R167): it acts on an emptied table, and of its notices only those of slots are
handed. They stand behind the rebuild's own notices. DESIGN CHOICE (log 35). -/
def restartPart (s : State) : State :=
  let s' := restartBlocks s
  let acted := restartActs s (s'.setTable [])
  let t := rebuildAlarms { acted with mgmt := s'.mgmt }
  let t := { t with mgmt := (eachSlot (rebuildNotice s) allSlots { s' with mgmt := t.mgmt }).mgmt }
  handSlotNotices acted.mgmt.transmit (if t.tb.quality.number = s.tb.quality.number then t else timingNotice t)
/-- RESTART_TAKE_EFFECT: when the RESTART reply has been sent, the part restarts (R177). -/
def execRestartTakeEffect (s : State) : Out State :=
  .next (if s.mgmt.restart = .replySent then restartPart s else s)

end Sys2Proof.Machine
end

