-- ==== Sys2Proof/Machine/RouteRequests.lean ====
section
/-! DEFINITION. The route, group and domain requests (R70, R71, R73, R76, R77, R81). -/

namespace Sys2Proof.Machine

/-- The target that a kind and a number name (R70). -/
def targetOf (k : EntryKind) (n : Nat) : Option Target :=
  match k with
  | .unicast => (slotOf n).map .slot
  | .group => (groupOf n).map .group
def groupNumber (g : GroupId) : Nat := g.val + 1
def EntryState.number : EntryState → Nat
  | .active => 0 | .inactive => 1 | .retiring => 2
/-- The fields of an entry in the order of R67. -/
def entryBytes (s : State) (e : Entry) : List Byte :=
  be8 e.address
    ++ (match e.target with
      | .slot n => be8 0 ++ be8 (slotNumber n)
      | .group g => be8 1 ++ be8 (groupNumber g))
    ++ be8 (match e.origin with | .learned => 0 | .provisioned => 1) ++ be8 (classSetCode e.classes) ++ beFlag e.serving
    ++ be8 (entryState s e).number

/-- The answer of ROUTE_SET by what stands at the address (R70): a refusal or the entry that stands there afterwards. -/
def routeSetAnswer (t : List Entry) (a : Nat) (target : Target) (classes : PerClass Bool) : Except Reason Entry :=
  match findEntry t a with
  | none => if Config.routePlaces ≤ t.length then .error .tableFull else .ok ⟨a, target, .provisioned, classes, false⟩
  | some e =>
    match e.origin, e.serving with
    | .provisioned, false => .ok ⟨a, target, .provisioned, classes, false⟩
    | .provisioned, true | .learned, _ =>
      if e.target = target then .ok ⟨a, target, .provisioned, classes, true⟩ else .error .conflict
def routeSet (tag : Byte) (f : RouteFields) (s : State) : State :=
  match isCardAddress f.address, targetOf f.kind f.target with
  | true, some target =>
    match routeSetAnswer s.routes.table f.address target (f.classes.getD allPermitted) with
    | .ok e =>
      let s := s.setEntries (putEntry e s.routes.table)
      accept 14 tag (entryBytes s e) s
    | .error r => refuse 14 tag r s
  | _, _ => refuse 14 tag .badField s
def execRouteSet (tag : Byte) (body : Body RouteFields) (s : State) : Out State :=
  runRequest (.routeSet tag body) 14 tag body (routeSet tag) s

/-- ROUTE_CLEAR by what stands at the address (R71). -/
def routeClear (tag : Byte) (a : Nat) (s : State) : State :=
  if isCardAddress a then
    match findEntry s.routes.table a with
    | none => refuse 15 tag .notFound s
    | some e =>
      match e.origin, e.serving with
      | .learned, _ => refuse 15 tag .wrongState s
      | .provisioned, true =>
        accept 15 tag [] (s.setEntries (putEntry { e with origin := .learned, classes := allPermitted, serving := false }
          s.routes.table))
      | .provisioned, false => accept 15 tag [] (s.setEntries (dropEntry s.routes.table a))
  else refuse 15 tag .badField s
def execRouteClear (tag : Byte) (body : Body Nat) (s : State) : Out State :=
  runRequest (.routeClear tag body) 15 tag body (routeClear tag) s

/-! ### ROUTE_READ (R81) -/

/-- ROUTE_READ with mode ENTRY. -/
def routeReadEntry (tag : Byte) (a : Nat) (s : State) : State :=
  if isCardAddress a then
    match findEntry s.routes.table a with
    | some e => accept 16 tag (entryBytes s e) s
    | none => refuse 16 tag .notFound s
  else refuse 16 tag .badField s
def execRouteReadEntry (tag : Byte) (body : Body Nat) (s : State) : Out State :=
  runRequest (.routeReadEntry tag body) 16 tag body (routeReadEntry tag) s
/-- The reply to ROUTE_READ with mode TABLE: the table is kept in ascending order of address. -/
def routeTableReply (s : State) (start : Nat) : List Byte :=
  let l := s.routes.table.filter fun e => start ≤ e.address
  be8 s.routes.table.length ++ beList (entryBytes s) (l.take 16)
    ++ beOpt (fun e : Entry => be8 e.address) 1 (l.drop 16).head?
def execRouteReadTable (tag : Byte) (body : Body Nat) (s : State) : Out State :=
  runRequest (.routeReadTable tag body) 16 tag body
    (fun a s => if isCardAddress a then accept 16 tag (routeTableReply s a) s else refuse 16 tag .badField s) s
/-- The entries that name a group. -/
def groupUses (t : List Entry) (g : GroupId) : Nat := (t.filter fun e => e.target == .group g).length
/-- The reply to ROUTE_READ with mode GROUPS: the sixteen member sets, each a counted list in ascending slot order, then the
sixteen entry counts. DESIGN CHOICE (log 12). -/
def routeGroupsReply (s : State) : List Byte :=
  (allGroups.flatMap fun g => beList (fun n => be8 (slotNumber n)) s.routes.groups[g])
    ++ allGroups.flatMap fun g => be8 (groupUses s.routes.table g)
def execRouteReadGroups (tag : Byte) (body : Body Unit) (s : State) : Out State :=
  runRequest (.routeReadGroups tag body) 16 tag body (fun _ s => accept 16 tag (routeGroupsReply s) s) s
/-- The map and the matrix. -/
def domainBytes (r : Routes) : List Byte :=
  (allSlots.flatMap fun n => be8 r.domains[n]) ++ beFlag r.join12 ++ beFlag r.join13 ++ beFlag r.join23
def execRouteReadDomains (tag : Byte) (body : Body Unit) (s : State) : Out State :=
  runRequest (.routeReadDomains tag body) 16 tag body
    (fun _ s => accept 16 tag (domainBytes s.routes ++ beFlag s.routes.locked) s) s

/-! ### GROUP_SET, DOMAIN_SET, DOMAIN_LOCK -/

/-- The slots that a list of numbers names, ascending and without repeats; none where a number is outside 1 to 12. R73 gives
no order to a member set. DESIGN CHOICE (log 12). -/
def memberSet (l : List Nat) : Option (List SlotId) :=
  if l.all (fun k => (slotOf k).isSome) then some (allSlots.filter fun n => l.contains (slotNumber n)) else none
/-- GROUP_SET (R73). Its reply gives the member set as a counted list in ascending slot order. DESIGN CHOICE (log 12). -/
def groupSet (tag : Byte) (f : GroupFields) (s : State) : State :=
  match groupOf f.group, memberSet f.members with
  | some g, some m =>
    accept 17 tag (beList (fun n => be8 (slotNumber n)) m) (s.setRoutes { s.routes with groups := s.routes.groups.set g m })
  | _, _ => refuse 17 tag .badField s
def execGroupSet (tag : Byte) (body : Body GroupFields) (s : State) : Out State :=
  runRequest (.groupSet tag body) 17 tag body (groupSet tag) s

/-- A pair of two different operator domains, in ascending order. -/
def operatorPair (a b : Nat) : Option (Nat × Nat) :=
  if 1 ≤ a ∧ a ≤ 3 ∧ 1 ≤ b ∧ b ≤ 3 ∧ a ≠ b then some (min a b, max a b) else none
/-- DOMAIN_SET has no field of a value that it cannot take (R76). -/
def domainFieldsGood (f : DomainFields) : Bool :=
  f.assignments.all (fun a => (slotOf a.1).isSome && a.2 ≤ 3)
    && (f.assignments.map (·.1)).eraseDups.length == f.assignments.length
    && f.pairs.all (fun p => (operatorPair p.1 p.2.1).isSome)
    && (f.pairs.map fun p => operatorPair p.1 p.2.1).eraseDups.length == f.pairs.length
/-- The domain map after its assignments. -/
def assignDomains : List (Nat × Nat) → Vector Nat 12 → Vector Nat 12
  | [], v => v
  | (k, d) :: r, v => assignDomains r (match slotOf k with | some n => v.set n d | none => v)
/-- The matrix after its pair settings. -/
def setPairs : List (Nat × Nat × Bool) → Routes → Routes
  | [], r => r
  | (a, b, j) :: l, r => setPairs l (match operatorPair a b with
    | some (1, 2) => { r with join12 := j }
    | some (1, 3) => { r with join13 := j }
    | some (2, 3) => { r with join23 := j }
    | _ => r)
/-- DOMAIN_SET (R76): BAD_FIELD before LOCKED, in the order of the rule. -/
def domainSet (tag : Byte) (f : DomainFields) (s : State) : State :=
  if domainFieldsGood f then
    if s.routes.locked then refuse 18 tag .locked s
    else
      let r := setPairs f.pairs { s.routes with domains := assignDomains f.assignments s.routes.domains }
      accept 18 tag (domainBytes r) (s.setRoutes r)
  else refuse 18 tag .badField s
def execDomainSet (tag : Byte) (body : Body DomainFields) (s : State) : Out State :=
  runRequest (.domainSet tag body) 18 tag body (domainSet tag) s
/-- DOMAIN_LOCK (R77). -/
def execDomainLock (tag : Byte) (body : Body Unit) (s : State) : Out State :=
  runRequest (.domainLock tag body) 19 tag body
    (fun _ s => accept 19 tag [] (s.setRoutes { s.routes with locked := true })) s

end Sys2Proof.Machine
end

