-- ==== Sys2Proof/Machine/SlotRequests.lean ====
section
/-! DEFINITION. The slot requests (R11, R28 to R32) and IDENTITY_READ (R44, R45). A reply is placed before the change of state
that it starts (section 1.12, R171). The layouts of the replies are those of R182, with the choices of log 12. -/

namespace Sys2Proof.Machine

/-! ### SLOT_POLICY_SET (R31) -/

/-- The values taken: each field as it is after clamping (R31). -/
def takenPolicy (f : PolicyFields) : PolicyFields :=
  { f with
    priority := f.priority.map (min 7)
    debounce := f.debounce.map takeDebounce
    inrush := f.inrush.map (clampNat 20 200)
    drain := f.drain.map (clampNat 10 1000) }
/-- The reply to SLOT_POLICY_SET: each field present with the value taken. -/
def policyReply (f : PolicyFields) : List Byte :=
  beOpt (fun p => be8 p.code) 1 f.policy ++ beOpt be8 1 f.priority ++ beOpt beFlag 1 f.txInhibit
    ++ beOpt be8 1 f.debounce ++ beOpt be8 1 f.inrush ++ beOpt be16 2 f.drain
/-- The records after SLOT_POLICY_SET, its fields as taken. -/
def setPolicy (n : SlotId) (f : PolicyFields) (s : State) : State :=
  let s := s.updSlot n fun r => { r with
    policy := f.policy.getD r.policy
    priority := f.priority.getD r.priority
    priorityByHost := r.priorityByHost || f.priority.isSome
    txInhibit := f.txInhibit.getD r.txInhibit }
  { s with sc := { s.sc with
    debounce := f.debounce.getD s.sc.debounce
    inrush := f.inrush.getD s.sc.inrush
    drain := f.drain.getD s.sc.drain } }
/-- An evaluation follows a change of the shed priority of a slot in a staying state while the episode runs (R53). -/
def priorityChanged (n : SlotId) (old : Nat) (s : State) : State :=
  if s.slots[n].priority ≠ old ∧ s.slots[n].state.staying = true ∧ s.budget.episode = true then settle s else s
/-- What follows the reply to SLOT_POLICY_SET (R31): the gate follows the inhibit, a change to AUTO admits. -/
def policyEffects (n : SlotId) (f : PolicyFields) (old : Nat) (s : State) : State :=
  let s := priorityChanged n old (gateFollow n s)
  if f.policy = some .auto ∧ s.slots[n].state = .awaiting .approval then withBudget (admitSlot n) s else s
def policySet (tag : Byte) (f : PolicyFields) (s : State) : State :=
  withSlot 3 tag f.slot (fun n s =>
    let old := s.slots[n].priority
    policyEffects n f old (accept 3 tag (policyReply (takenPolicy f)) (setPolicy n (takenPolicy f) s))) s
def execSlotPolicySet (tag : Byte) (body : Body PolicyFields) (s : State) : Out State :=
  runRequest (.slotPolicySet tag body) 3 tag body (policySet tag) s

/-! ### SLOT_ADMIT, SLOT_RELEASE, SLOT_POWER_CYCLE, SLOT_CLEAR_FAULT -/

/-- SLOT_ADMIT by state (R11). -/
def slotAdmit (tag : Byte) (n : SlotId) (s : State) : State :=
  match s.slots[n].state with
  | .awaiting .approval => withBudget (admitSlot n) (accept 4 tag [] s)
  | .awaiting .budget | .powering | .training | .active | .draining _ | .poweringOff _ | .recovering =>
    accept 4 tag [] s
  | .empty | .detected | .identifying | .poweredDown | .shed | .faulted _ => refuse 4 tag .wrongState s
def execSlotAdmit (tag : Byte) (body : Body Nat) (s : State) : Out State :=
  runRequest (.slotAdmit tag body) 4 tag body (fun k => withSlot 4 tag k (slotAdmit tag)) s

/-- SLOT_RELEASE by state (R28). -/
def slotRelease (tag : Byte) (n : SlotId) (s : State) : State :=
  match s.slots[n].state with
  | .active => withBudget (fun s => drainStart n .normal s.sc.drain s) (accept 5 tag [] s)
  | .powering | .training | .recovering => withBudget (teardownOff n .normal) (accept 5 tag [] s)
  | .draining _ | .poweringOff _ => accept 5 tag [] s
  | .empty | .detected | .identifying | .awaiting _ | .poweredDown | .shed | .faulted _ => refuse 5 tag .wrongState s
def execSlotRelease (tag : Byte) (body : Body Nat) (s : State) : Out State :=
  runRequest (.slotRelease tag body) 5 tag body (fun k => withSlot 5 tag k (slotRelease tag)) s

/-- SLOT_POWER_CYCLE (R29). -/
def slotPowerCycle (tag : Byte) (n : SlotId) (s : State) : State :=
  if s.slots[n].state = .active then withBudget (fun s => drainStart n .cycle s.sc.drain s) (accept 6 tag [] s)
  else refuse 6 tag .wrongState s
def execSlotPowerCycle (tag : Byte) (body : Body Nat) (s : State) : Out State :=
  runRequest (.slotPowerCycle tag body) 6 tag body (fun k => withSlot 6 tag k (slotPowerCycle tag)) s

/-- SLOT_CLEAR_FAULT (R30). -/
def slotClearFault (tag : Byte) (n : SlotId) (s : State) : State :=
  match s.slots[n].state with
  | .faulted r =>
    if r = .cutoff ∧ s.budget.latch.isSome = true then refuse 7 tag .wrongState s
    else withBudget (toDetected n) (accept 7 tag [] s)
  | .empty | .detected | .identifying | .awaiting _ | .powering | .training | .active | .draining _ | .poweringOff _
  | .poweredDown | .shed | .recovering => refuse 7 tag .wrongState s
def execSlotClearFault (tag : Byte) (body : Body Nat) (s : State) : Out State :=
  runRequest (.slotClearFault tag body) 7 tag body (fun k => withSlot 7 tag k (slotClearFault tag)) s

/-! ### SLOT_READ (R32) -/

/-- The block count of an identity record (section 2.1). -/
def Identity.blockCount (c : Identity) : Nat :=
  3 + (c.addresses.length + (if c.suggestion.isSome then 1 else 0) + (if c.asymmetry.isSome then 2 else 0) + 7) / 8
/-- The fields of an identity record in the order of its table in section 2.1; the address count is the count byte of the
address list. -/
def identityBytes (c : Identity) : List Byte :=
  be8 1 ++ be8 c.blockCount ++ be8 c.kind.number ++ be16 c.vendor ++ c.serial ++ be16 c.draw ++ beFlag c.needsTiming
    ++ beFlag c.transmitter ++ be16 c.internalDelay ++ be16 c.turnaround ++ beList be8 c.addresses
    ++ beOpt be8 1 c.suggestion ++ beOpt beS16 2 c.asymmetry
/-- The bytes of an identity record with an empty list. -/
def identitySize : Nat := 31
def SlotState.faultReason : SlotState → Option Nat
  | .faulted r => some r.number
  | .empty | .detected | .identifying | .awaiting _ | .powering | .training | .active | .draining _ | .poweringOff _
  | .poweredDown | .shed | .recovering => none
def SlotState.awaitReason : SlotState → Option Nat
  | .awaiting r => some r.number
  | .empty | .detected | .identifying | .powering | .training | .active | .draining _ | .poweringOff _ | .poweredDown
  | .shed | .faulted _ | .recovering => none
def SlotState.offPurpose : SlotState → Option Nat
  | .draining p => some p.number
  | .poweringOff p => some p.number
  | .empty | .detected | .identifying | .awaiting _ | .powering | .training | .active | .poweredDown | .shed
  | .faulted _ | .recovering => none
/-- The place of a slot in the admission queue, 1 being the oldest (R12). -/
def queuePlace (s : State) (n : SlotId) : Option Nat :=
  if s.sc.queue.contains n then some (s.sc.queue.idxOf n + 1) else none
/-- The reply to SLOT_READ (R32): the record in the order of R5, then the items of R32 in their order. The identity record stands
once, at R32's second item, with 31 zero bytes where it is absent. DESIGN CHOICE (log 12). -/
def slotReadReply (s : State) (n : SlotId) : List Byte :=
  let r := s.slots[n]
  be8 (slotNumber n) ++ be8 r.state.number ++ beOpt be8 1 r.state.faultReason ++ beOpt be8 1 r.state.awaitReason
    ++ beOpt be8 1 r.state.offPurpose ++ be8 r.policy.code ++ beFlag r.waived ++ be8 r.priority
    ++ beFlag r.priorityByHost ++ be8 s.routes.domains[n] ++ beFlag r.txInhibit ++ be16 r.drawCounted
    ++ frameBytes r.lastChange ++ beOpt identityBytes identitySize (cardOf s n)
    ++ beOpt (fun i : StoredIdentity => be8 i.status.number) 1 r.identity ++ beOpt be8 1 (queuePlace s n)
    ++ beFlag (s.budget.shedList.contains n) ++ beFlag r.present ++ beFlag r.latchClosed ++ beFlag r.pwrEn
    ++ beFlag r.pwrGood ++ be8 s.sc.debounce ++ be8 s.sc.inrush ++ be16 s.sc.drain
def execSlotRead (tag : Byte) (body : Body Nat) (s : State) : Out State :=
  runRequest (.slotRead tag body) 8 tag body
    (fun k => withSlot 8 tag k (fun n s => accept 8 tag (slotReadReply s n) s)) s

/-! ### IDENTITY_READ (R44, R45) -/

/-- IDENTITY_READ with mode START (R44). -/
def identityStart (tag : Byte) (n : SlotId) (s : State) : State :=
  if s.slots[n].present then
    if s.readers[n].line = none then startRead n .host (accept 9 tag [] s) else refuse 9 tag .busy s
  else refuse 9 tag .wrongState s
def execIdentityReadStart (tag : Byte) (body : Body Nat) (s : State) : Out State :=
  runRequest (.identityReadStart tag body) 9 tag body (fun k => withSlot 9 tag k (identityStart tag)) s

/-- The fields of block 1 in R187's order, each an optional field and each flag one byte (R182). R45 gives no order. DESIGN
CHOICE (log 12). -/
def blockOneBytes (l : Option (List Byte)) : List Byte :=
  beOpt be8 1 (l.map fVersion) ++ beOpt be8 1 (l.map fBlockCount) ++ beOpt be8 1 (l.map (byteAt · 1))
    ++ beOpt beFlag 1 (l.map fNeedsTiming) ++ beOpt beFlag 1 (l.map fTransmitter)
    ++ beOpt beFlag 1 (l.map fHasSuggestion) ++ beOpt beFlag 1 (l.map fHasAsymmetry)
    ++ beOpt be8 1 (l.map fAddressCount) ++ beOpt be16 2 (l.map (wordAt · 4)) ++ beOpt be16 2 (l.map (wordAt · 6))
/-- The fields of the blocks after block 1 in R187's order, each an optional field (R182). R45 gives no order. DESIGN CHOICE
(log 12). -/
def laterBytes (l : Option (List Byte)) : List Byte :=
  beOpt id 12 (l.map fSerial) ++ beOpt be16 2 (l.map (wordAt · 20)) ++ beOpt be16 2 (l.map (wordAt · 22))
    ++ beOpt (beList be8) 1 (l.map fAddresses) ++ beOpt be8 1 (l.bind fSuggestion) ++ beOpt beS16 2 (l.bind fAsymmetry)
/-- The decoded fields of a host read (R44): those of block 1 where it was decoded, the others where every block was. -/
def decodedBytes (blocks : List (BitVec 64)) : List Byte :=
  blockOneBytes (if 1 ≤ blocks.length then some (recordBytes blocks) else none)
    ++ laterBytes (if 2 ≤ blocks.length then some (recordBytes blocks) else none)
/-- The host result with its contents, each content an optional field (R33, R45). -/
def hostResultBytes : HostResult → List Byte
  | .none => be8 0 ++ List.replicate 6 0 ++ decodedBytes [] ++ beOpt be8 1 none
  | .inFlight => be8 1 ++ List.replicate 6 0 ++ decodedBytes [] ++ beOpt be8 1 none
  | .ended o st block blocks check =>
    be8 2 ++ (be8 1 ++ be8 o.number) ++ (be8 1 ++ be8 st.number) ++ beOpt be8 1 block ++ decodedBytes blocks
      ++ beOpt (fun c : CheckName => be8 c.number) 1 check
  | .aborted => be8 3 ++ List.replicate 6 0 ++ decodedBytes [] ++ beOpt be8 1 none
/-- A last outcome in the order of R33, one optional field of the reply. DESIGN CHOICE (log 12). -/
def lastOutcomeBytes (o : LastOutcome) : List Byte :=
  be8 o.outcome.number ++ be8 o.status.number ++ beOpt be8 1 o.block ++ be8 o.purpose.number ++ frameBytes o.frame
/-- The reply to IDENTITY_READ with mode FETCH (R45). -/
def identityFetchReply (r : ReadContext) : List Byte :=
  be8 (if r.line.isSome then 1 else 0) ++ beOpt (fun p : ReadPurpose => be8 p.number) 1 r.line
    ++ beOpt be8 1 (r.line.map fun _ => r.nextBlock) ++ beOpt lastOutcomeBytes 9 r.lastOutcome ++ hostResultBytes r.host
def execIdentityReadFetch (tag : Byte) (body : Body Nat) (s : State) : Out State :=
  runRequest (.identityReadFetch tag body) 9 tag body
    (fun k => withSlot 9 tag k (fun n s => accept 9 tag (identityFetchReply s.readers[n]) s)) s

end Sys2Proof.Machine
end

