-- ==== Sys2Proof/Machine/TimeEvents.lean ====
section
/-! DEFINITION. The commands of the oscillator, the edge inputs, the FP outputs and the gates (R105 to R118, R127, R128, R135,
R146, R147). -/

namespace Sys2Proof.Machine

/-- TIMEBASE_ADVANCE: one oscillator period (R105), and a sample of each edge input, which shows the level given, where the
period falls on the sample grid (R107). -/
def execTimebaseAdvance (ext : Bool) (te : BitVec 12) (s : State) : Out State :=
  .next (sampleEdges (showEdges ext te (runPeriods 1 s)))
/-- FRAME_BOUNDARY: the oscillator runs up to and with the advance that is the frame boundary event (R105, R106). -/
def execFrameBoundary (s : State) : Out State := .next (runTo (fun _ => some Config.frameTicks) s)

/-- EDGE_TAKEN: an edge filter takes an edge at the present period, and its input goes on showing the new level (R107,
log 8). -/
def execEdgeTaken (src : Ref) (s : State) : Out State := .next (takeEdge src s)
/-- REFERENCE_SILENCE_EXPIRY: 1.5 s have passed since the last edge of a source on the list (R111). -/
def execReferenceSilenceExpiry (src : Ref) (s : State) : Out State := .next (noticeTiming s.tb (refSilence src s))
/-- HOLDOVER_SECOND: a second has been spent in HOLDOVER (R113). -/
def execHoldoverSecond (s : State) : Out State := .next (holdoverTick s)

/-- PROBE_START: the oscillator runs to position 614,400 of a probe frame, where the slot's probe starts (R127). -/
def execProbeStart (n : SlotId) (s : State) : Out State := .next (runTo (probeTarget · n) s)
/-- PROBE_PULSE_END: the probe's 16 periods are over (R127). -/
def execProbePulseEnd (n : SlotId) (s : State) : Out State :=
  .next (match s.timing[n].fp with
    | .probe _ => s.setTiming n { s.timing[n] with fp := .low }
    | .low => s
    | .pulse _ => s)
/-- PROBE_WINDOW_EXPIRY: the probe window has reached its 4,096th period (R128). -/
def execProbeWindowExpiry (n : SlotId) (s : State) : Out State := .next (probeLost n s)
/-- FRAME_PULSE_START: the oscillator runs to Q of an ALIGNED slot, where its frame pulse starts unless the frame is a probe
frame or the pulse hold is set (R135). -/
def execFramePulseStart (n : SlotId) (s : State) : Out State := .next (runTo (pulseAdvance · n) s)
/-- FRAME_PULSE_END: the pulse's 64 periods are over (R135). -/
def execFramePulseEnd (n : SlotId) (s : State) : Out State :=
  .next (match s.timing[n].fp with
    | .pulse _ => s.setTiming n { s.timing[n] with fp := .low }
    | .low => s
    | .probe _ => s)

/-- WINDOW_APPROACH: the oscillator runs to where the slot's next leading guard begins (R147). -/
def execWindowApproach (n : SlotId) (s : State) : Out State := .next (runTo (approachTarget · n) s)
/-- TXG_RISE: the oscillator runs to the start of the slot's approached window, where its TXG rises if every transmit
condition holds (R147). -/
def execTxgRise (n : SlotId) (s : State) : Out State := .next (runTo (riseTarget · n) s)
/-- WINDOW_END: the oscillator runs to the end of the slot's next window (R146, R147). -/
def execWindowEnd (n : SlotId) (s : State) : Out State := .next (runTo (endTarget · n) s)
/-- GUARD_HOLD_EXPIRY: the oscillator runs to where the slot's guard hold reaches 0 (R146). -/
def execGuardHoldExpiry (n : SlotId) (s : State) : Out State := .next (runTo (holdTarget · n) s)

end Sys2Proof.Machine
end

