-- ==== Sys2Proof/Machine/TimingRequests.lean ====
section
/-! DEFINITION. The timing requests: TIMING_READ, TIMING_SET, DELAY_MEASURE and TRIM_SET (R122, R123, R137 to R139). -/

namespace Sys2Proof.Machine

/-! ### TIMING_READ (R122) -/

/-- The settings of R104 in the order of its table. -/
def settingBytes (tb : Timebase) : List Byte :=
  beList (fun q : RefRec => be8 (refNumber q.src)) tb.refs ++ beFlag tb.revertive ++ be16 tb.cableDelay
    ++ be32 tb.refOffset ++ be16 tb.holdoverLimit ++ be8 tb.samplePeriod
/-- Whether a slot on the list is eligible; absent for EXT. -/
def eligibleOf (s : State) : Ref → Option Bool
  | .ext => none
  | .slot n => some (eligible s n)
/-- A source's qualification state, the run that its state gives meaning to, and its eligibility. -/
def refBytes (s : State) (q : RefRec) : List Byte :=
  beFlag q.qualified ++ be8 (if q.qualified then q.implausible else q.plausible) ++ beOpt beFlag 1 (eligibleOf s q.src)
/-- The origin of ACQUIRING. -/
def Quality.origin : Quality → Option QOrigin
  | .acquiring o => some o
  | .freerun | .locked | .holdover => none
/-- The reply to TIMING_READ (R122), in the order of its bullets; the sources' records are a list with its count byte
(R182). -/
def timingReadReply (s : State) : List Byte :=
  let tb := s.tb
  be32 tb.p ++ frameBytes tb.cfc ++ be32 (secondPosition tb) ++ beS32 tb.steer ++ beS32 tb.integral
    ++ be8 tb.quality.number ++ beOpt (fun o : QOrigin => be8 o.number) 1 tb.quality.origin ++ beFlag tb.stepPending
    ++ beFlag tb.switchPending ++ be8 tb.goodCount ++ be8 tb.jumpCount
    ++ beOpt (fun r => be8 (refNumber r)) 1 tb.selected ++ beFlag tb.everSelected ++ be32 tb.holdElapsed
    ++ settingBytes tb ++ beList (refBytes s) tb.refs
    ++ beOpt (fun e : Int × FrameCount => beS32 e.1) 4 tb.lastError
    ++ beOpt (fun e : Int × FrameCount => frameBytes e.2) 4 tb.lastError
def execTimingRead (tag : Byte) (body : Body Unit) (s : State) : Out State :=
  runRequest (.timingRead tag body) 23 tag body (fun _ s => accept 23 tag (timingReadReply s) s) s

/-! ### TIMING_SET (R123) -/

/-- The reference list that reference bytes name: at most 3 sources, no source twice. -/
def refList (l : List Nat) : Option (List Ref) :=
  if l.length ≤ 3 ∧ l.eraseDups.length = l.length ∧ l.all (fun k => (refOf k).isSome) = true then some (l.filterMap refOf)
  else none
/-- The reference list of a TIMING_SET: none where it is refused. -/
def refsTaken (f : TimingFields) : Option (Option (List Ref)) :=
  match f.refs with
  | none => some none
  | some l => (refList l).map some
/-- A sample period is 1, 2 or 8 ticks. -/
def samplePeriodGood (x : Option Nat) : Bool := x.all fun k => k == 1 || k == 2 || k == 8
/-- The records of a new list: a source kept keeps its record (R123). -/
def refRecords (tb : Timebase) (l : List Ref) : List RefRec := l.map fun r => (refRec tb r).getD (RefRec.fresh r)
/-- The settings of a TIMING_SET, clamped, but for the reference list. -/
def takeSettings (f : TimingFields) (tb : Timebase) : Timebase :=
  { tb with
    revertive := f.revertive.getD tb.revertive
    cableDelay := (f.cableDelay.map (min 65535)).getD tb.cableDelay
    refOffset := (f.refOffset.map (min 122879999)).getD tb.refOffset
    holdoverLimit := (f.holdoverLimit.map (min 65535)).getD tb.holdoverLimit
    samplePeriod := f.samplePeriod.getD tb.samplePeriod }
/-- The reference list of a TIMING_SET is taken; a list that differs sets I and S to 0 in FREERUN (R121), by the quality as the
request finds it: a limit of the same request acts after the list and the selection. DESIGN CHOICE (log 9). -/
def takeRefs (l : Option (List Ref)) (tb : Timebase) : Timebase :=
  match l with
  | none => tb
  | some l =>
    let changed := l != tb.refs.map (·.src) && tb.quality == .freerun
    { tb with
      refs := refRecords tb l
      integral := if changed then 0 else tb.integral
      steer := if changed then 0 else tb.steer }
/-- A change of the sample period sets the count of every filter to 0 (R107). -/
def resetFilters (tb : Timebase) : Timebase :=
  { tb with
    extFilter := { tb.extFilter with count := 0 }
    teFilters := mapEach (fun f => { f with count := 0 }) tb.teFilters }
/-- REFERENCE_LOST is cleared for each source taken off the list (R111, R123), in the order of the old list. DESIGN CHOICE
(log 9). -/
def clearLost : List RefRec → State → State
  | [], s => s
  | q :: r, s => clearLost r (if onList s.tb q.src then s else clearAlarm .referenceLost (.ref q.src) 0 s)
/-- A limit below the elapsed time ends a HOLDOVER (R113), also where the TIMING_SET carries none and finds it passed. DESIGN
CHOICE (log 34). -/
def checkHoldover (s : State) : State :=
  if s.tb.quality = .holdover ∧ s.tb.holdoverLimit < s.tb.holdElapsed then setQuality .freerun s else s
/-- The effects of a TIMING_SET, which follow its reply in one operation (R123). -/
def timingEffects (l : Option (List Ref)) (f : TimingFields) (s : State) : State :=
  let before := s.tb
  let tb := takeRefs l (takeSettings f s.tb)
  let s := s.setTb (if tb.samplePeriod = before.samplePeriod then tb else resetFilters tb)
  noticeTiming before (checkHoldover (reselect (clearLost before.refs s)))
/-- The settings as a TIMING_SET leaves them, for its reply. -/
def timingSetReply (l : Option (List Ref)) (f : TimingFields) (tb : Timebase) : List Byte :=
  settingBytes (takeRefs l (takeSettings f tb))
def timingSet (tag : Byte) (f : TimingFields) (s : State) : State :=
  match refsTaken f, samplePeriodGood f.samplePeriod with
  | some l, true => timingEffects l f (accept 22 tag (timingSetReply l f s.tb) s)
  | _, _ => refuse 22 tag .badField s
def execTimingSet (tag : Byte) (body : Body TimingFields) (s : State) : Out State :=
  runRequest (.timingSet tag body) 22 tag body (timingSet tag) s

/-! ### DELAY_MEASURE (R137, R138) -/

/-- DELAY_MEASURE with mode START (R137): a measurement ends the slot's eligibility as a reference (R126, R109). -/
def delayStart (tag : Byte) (n : SlotId) (s : State) : State :=
  if s.slots[n].state ≠ .training ∧ s.slots[n].state ≠ .active then refuse 24 tag .wrongState s
  else if s.tb.selected = some (.slot n) then refuse 24 tag .wrongState s
  else if s.timing[n].measuring.isSome then refuse 24 tag .busy s
  else refCheck n (startMeasurement n (accept 24 tag [] s))
def execDelayMeasureStart (tag : Byte) (body : Body Nat) (s : State) : Out State :=
  runRequest (.delayMeasureStart tag body) 24 tag body (fun k => withSlot 24 tag k (delayStart tag)) s

/-- The items of a measurement in flight that R138 lists, each an optional field; an absent list keeps its count byte. -/
def attemptBytes (a : Option Attempt) : List Byte :=
  beOpt (fun a : Attempt => be8 a.failed) 1 a ++ beOpt (fun a : Attempt => be8 a.sent) 1 a
    ++ beOpt (fun a : Attempt => beList be16 a.accepted) 1 a ++ beOpt (fun a : Attempt => beFlag a.window.isSome) 1 a
/-- D, C and Q, each an optional field (R138). -/
def valueBytes (v : Option (Nat × Nat)) : List Byte :=
  beOpt (fun v : Nat × Nat => be16 v.1) 2 v ++ beOpt (fun v : Nat × Nat => be16 v.2) 2 v
    ++ beOpt (fun v : Nat × Nat => be32 (pulsePosition v.2)) 4 v
def stagedBytes (v : Staged) : List Byte := be16 v.delay ++ be16 v.comp ++ be8 (if v.result.isSome then 0 else 1)
def lastAttemptBytes (a : LastAttempt) : List Byte :=
  be8 a.outcome.number ++ be8 a.sent ++ be8 a.accepted ++ be8 a.lost ++ be8 a.outOfRange
def lastResultBytes (r : LastResult) : List Byte :=
  be16 r.data.median ++ be8 r.data.kept ++ be16 r.data.sum ++ be16 r.delay ++ be16 r.comp ++ frameBytes r.frame
/-- A timing record in the order of R138. The staged values, the last attempt and the last result, which R125 holds as one item
each, are one optional field each. DESIGN CHOICE (log 12). -/
def timingBytes (r : TimingRec) : List Byte :=
  be8 r.state.number ++ beFlag r.measuring.isSome ++ attemptBytes r.measuring ++ valueBytes r.values
    ++ beOpt stagedBytes 5 r.staged ++ beS16 r.trim ++ beFlag r.unstableRaised
    ++ beOpt lastAttemptBytes 5 r.lastAttempt ++ beOpt lastResultBytes 13 r.lastResult
/-- The reply to DELAY_MEASURE with mode READ (R138). -/
def delayReadReply (s : State) (n : SlotId) : List Byte :=
  timingBytes s.timing[n] ++ beOpt (fun c : Identity => be16 c.internalDelay) 2 (cardOf s n)
    ++ beOpt (fun c : Identity => be16 c.turnaround) 2 (cardOf s n) ++ beFlag s.pulseHold
def execDelayMeasureRead (tag : Byte) (body : Body Nat) (s : State) : Out State :=
  runRequest (.delayMeasureRead tag body) 24 tag body
    (fun k => withSlot 24 tag k (fun n s => accept 24 tag (delayReadReply s n) s)) s

/-! ### TRIM_SET (R139) -/

/-- The staged values after a new trim (R139). -/
def stageTrim (k : Nat) (t : Int) (r : TimingRec) : Option Staged :=
  match r.staged with
  | some v => some { v with comp := compensation v.delay k t }
  | none =>
    match r.state, r.values with
    | .aligned, some (d, _) => some ⟨d, compensation d k t, none⟩
    | _, _ => none
/-- TRIM_SET (R139). Its reply gives the trim taken and then R138's items but K, U and the pulse hold. DESIGN CHOICE (log
12). -/
def trimSet (tag : Byte) (f : TrimFields) (s : State) : State :=
  withSlot 25 tag f.slot (fun n s =>
    let t := clampInt (-2048) 2047 f.trim
    let r := s.timing[n]
    let s := s.setTiming n { r with trim := t, staged := stageTrim (internalDelay s n) t r }
    accept 25 tag (beS16 t ++ timingBytes s.timing[n]) s) s
def execTrimSet (tag : Byte) (body : Body TrimFields) (s : State) : Out State :=
  runRequest (.trimSet tag body) 25 tag body (trimSet tag) s

end Sys2Proof.Machine
end

