-- ==== Sys2Proof/Machine/Dispatch.lean ====
section
/-! DEFINITION. The meaning of each command: one arm per constructor of `Instr`. -/

namespace Sys2Proof.Machine

/-- The effect of a command on everything but the queue of waiting commands. -/
def exec (i : Instr) (s : State) : Host.Outcome State Fault Refusal :=
  match i with
  | .fullReset cause strap => Sys2Proof.Machine.execFullReset cause strap s
  | .presentRawChange n => Sys2Proof.Machine.execPresentRawChange n s
  | .presentFilteredChange n => Sys2Proof.Machine.execPresentFilteredChange n s
  | .latchRawChange n => Sys2Proof.Machine.execLatchRawChange n s
  | .latchFilteredChange n => Sys2Proof.Machine.execLatchFilteredChange n s
  | .pwrGoodAssert n => Sys2Proof.Machine.execPwrGoodAssert n s
  | .pwrGoodHoldComplete n => Sys2Proof.Machine.execPwrGoodHoldComplete n s
  | .pwrGoodDeassert n => Sys2Proof.Machine.execPwrGoodDeassert n s
  | .inrushWindowExpiry n => Sys2Proof.Machine.execInrushWindowExpiry n s
  | .laneTrainingLimitExpiry n => Sys2Proof.Machine.execLaneTrainingLimitExpiry n s
  | .laneUp n => Sys2Proof.Machine.execLaneUp n s
  | .drainLimitExpiry n => Sys2Proof.Machine.execDrainLimitExpiry n s
  | .laneQuietMarker n => Sys2Proof.Machine.execLaneQuietMarker n s
  | .powerOffWaitExpiry n => Sys2Proof.Machine.execPowerOffWaitExpiry n s
  | .identityBlockCompletion n answer => Sys2Proof.Machine.execIdentityBlockCompletion n answer s
  | .packetReceptionStart n block => Sys2Proof.Machine.execPacketReceptionStart n block s
  | .packetOverlength n => Sys2Proof.Machine.execPacketOverlength n s
  | .packetTrailer n rest trailer => Sys2Proof.Machine.execPacketTrailer n rest trailer s
  | .transmissionEnd n => Sys2Proof.Machine.execTransmissionEnd n s
  | .creditMessageSend n => Sys2Proof.Machine.execCreditMessageSend n s
  | .frameBoundary => Sys2Proof.Machine.execFrameBoundary s
  | .edgeTaken src => Sys2Proof.Machine.execEdgeTaken src s
  | .referenceSilenceExpiry src => Sys2Proof.Machine.execReferenceSilenceExpiry src s
  | .holdoverSecond => Sys2Proof.Machine.execHoldoverSecond s
  | .probeStart n => Sys2Proof.Machine.execProbeStart n s
  | .probePulseEnd n => Sys2Proof.Machine.execProbePulseEnd n s
  | .probeWindowExpiry n => Sys2Proof.Machine.execProbeWindowExpiry n s
  | .framePulseStart n => Sys2Proof.Machine.execFramePulseStart n s
  | .framePulseEnd n => Sys2Proof.Machine.execFramePulseEnd n s
  | .windowApproach n => Sys2Proof.Machine.execWindowApproach n s
  | .txgRise n => Sys2Proof.Machine.execTxgRise n s
  | .windowEnd n => Sys2Proof.Machine.execWindowEnd n s
  | .guardHoldExpiry n => Sys2Proof.Machine.execGuardHoldExpiry n s
  | .alarmInputRawChange k => Sys2Proof.Machine.execAlarmInputRawChange k s
  | .alarmInputFilteredChange k => Sys2Proof.Machine.execAlarmInputFilteredChange k s
  | .mgmtFrameArrival f => Sys2Proof.Machine.execMgmtFrameArrival f s
  | .mgmtFrameDiscard cause => Sys2Proof.Machine.execMgmtFrameDiscard cause s
  | .mgmtInterByteTimeout => Sys2Proof.Machine.execMgmtInterByteTimeout s
  | .mgmtFrameTransmitEnd => Sys2Proof.Machine.execMgmtFrameTransmitEnd s
  | .restartTakeEffect => Sys2Proof.Machine.execRestartTakeEffect s
  | .unknownKindRequest kind tag => Sys2Proof.Machine.execUnknownKindRequest kind tag s
  | .partInfo tag body => Sys2Proof.Machine.execPartInfo tag body s
  | .restart tag body => Sys2Proof.Machine.execRestart tag body s
  | .slotPolicySet tag body => Sys2Proof.Machine.execSlotPolicySet tag body s
  | .slotAdmit tag body => Sys2Proof.Machine.execSlotAdmit tag body s
  | .slotRelease tag body => Sys2Proof.Machine.execSlotRelease tag body s
  | .slotPowerCycle tag body => Sys2Proof.Machine.execSlotPowerCycle tag body s
  | .slotClearFault tag body => Sys2Proof.Machine.execSlotClearFault tag body s
  | .slotRead tag body => Sys2Proof.Machine.execSlotRead tag body s
  | .identityReadStart tag body => Sys2Proof.Machine.execIdentityReadStart tag body s
  | .identityReadFetch tag body => Sys2Proof.Machine.execIdentityReadFetch tag body s
  | .budgetSet tag body => Sys2Proof.Machine.execBudgetSet tag body s
  | .budgetRead tag body => Sys2Proof.Machine.execBudgetRead tag body s
  | .cutoff tag body => Sys2Proof.Machine.execCutoff tag body s
  | .cutoffRelease tag body => Sys2Proof.Machine.execCutoffRelease tag body s
  | .routeSet tag body => Sys2Proof.Machine.execRouteSet tag body s
  | .routeClear tag body => Sys2Proof.Machine.execRouteClear tag body s
  | .routeReadEntry tag body => Sys2Proof.Machine.execRouteReadEntry tag body s
  | .routeReadTable tag body => Sys2Proof.Machine.execRouteReadTable tag body s
  | .routeReadGroups tag body => Sys2Proof.Machine.execRouteReadGroups tag body s
  | .routeReadDomains tag body => Sys2Proof.Machine.execRouteReadDomains tag body s
  | .groupSet tag body => Sys2Proof.Machine.execGroupSet tag body s
  | .domainSet tag body => Sys2Proof.Machine.execDomainSet tag body s
  | .domainLock tag body => Sys2Proof.Machine.execDomainLock tag body s
  | .queueSet tag body => Sys2Proof.Machine.execQueueSet tag body s
  | .countersReadCounters tag body => Sys2Proof.Machine.execCountersReadCounters tag body s
  | .countersReadBuffer tag body => Sys2Proof.Machine.execCountersReadBuffer tag body s
  | .timingSet tag body => Sys2Proof.Machine.execTimingSet tag body s
  | .timingRead tag body => Sys2Proof.Machine.execTimingRead tag body s
  | .delayMeasureStart tag body => Sys2Proof.Machine.execDelayMeasureStart tag body s
  | .delayMeasureRead tag body => Sys2Proof.Machine.execDelayMeasureRead tag body s
  | .trimSet tag body => Sys2Proof.Machine.execTrimSet tag body s
  | .patternStage tag body => Sys2Proof.Machine.execPatternStage tag body s
  | .patternReadPatterns tag body => Sys2Proof.Machine.execPatternReadPatterns tag body s
  | .patternReadSlot tag body => Sys2Proof.Machine.execPatternReadSlot tag body s
  | .alarmReadTable tag body => Sys2Proof.Machine.execAlarmReadTable tag body s
  | .alarmReadInputs tag body => Sys2Proof.Machine.execAlarmReadInputs tag body s
  | .alarmReadRelays tag body => Sys2Proof.Machine.execAlarmReadRelays tag body s
  | .alarmAck tag body => Sys2Proof.Machine.execAlarmAck tag body s
  | .inputSet tag body => Sys2Proof.Machine.execInputSet tag body s
  | .relaySet tag body => Sys2Proof.Machine.execRelaySet tag body s
  | .timebaseAdvance ext te => Sys2Proof.Machine.execTimebaseAdvance ext te s
  | .mgmtByteReceived b => Sys2Proof.Machine.execMgmtByteReceived b s

end Sys2Proof.Machine
end

