-- ==== Sys2Proof/Safety.lean ====
section
/-! DEFINITION. What a safe run keeps, in the terms that claims use: the invariants that the manual's rules state of the whole
part, and the words in which claims speak of requests. -/

namespace Sys2Proof.Machine

/-! ### Slots, lanes and power (sections 1.2 and 11.1) -/

/-- The states with PWR_EN on (the table of section 1.2). -/
def SlotState.pwrOn : SlotState → Bool
  | .powering | .training | .active | .draining _ | .recovering => true
  | .empty | .detected | .identifying | .awaiting _ | .poweringOff _ | .poweredDown | .shed | .faulted _ => false
/-- The states in which a lane may train (R179). -/
def SlotState.mayTrain : SlotState → Bool
  | .training | .recovering => true
  | .empty | .detected | .identifying | .awaiting _ | .powering | .active | .draining _ | .poweringOff _ | .poweredDown
  | .shed | .faulted _ => false
/-- The states in which an inrush window may be open (R13, R27). -/
def SlotState.mayInrush : SlotState → Bool
  | .powering | .recovering => true
  | .empty | .detected | .identifying | .awaiting _ | .training | .active | .draining _ | .poweringOff _ | .poweredDown
  | .shed | .faulted _ => false
/-- The slot is in POWERING_OFF. -/
def SlotState.isPoweringOff : SlotState → Bool
  | .poweringOff _ => true
  | .empty | .detected | .identifying | .awaiting _ | .powering | .training | .active | .draining _ | .poweredDown
  | .shed | .faulted _ | .recovering => false

/-- PWR_EN and the declared draw counted are as the table of section 1.2 gives them. -/
abbrev PowerAsTabled (s : State) : Prop :=
  ∀ n : SlotId, s.slots[n].pwrEn = s.slots[n].state.pwrOn
    ∧ (s.slots[n].state.powered = false → s.slots[n].drawCounted = 0)
/-- A lane is UP exactly while its slot is ACTIVE or DRAINING, and trains in TRAINING or RECOVERING only (R179). -/
abbrev LanesFollowSlots (s : State) : Prop :=
  ∀ n : SlotId, (s.lanes[n].status = .up ↔ s.slots[n].state.inTraffic = true)
    ∧ (s.lanes[n].status = .training → s.slots[n].state.mayTrain = true)
/-- A window, limit or wait is in flight in the states of its rule only (R13, R14, R16, R17, R27). -/
abbrev TimersInTheirStates (s : State) : Prop :=
  ∀ n : SlotId,
    (s.slots[n].inrushWindow.isSome = true → s.slots[n].state.mayInrush = true)
    ∧ (s.slots[n].trainLimit.isSome = true → s.slots[n].state.mayTrain = true)
    ∧ (s.slots[n].drainLimit.isSome = true → s.slots[n].state.isDraining = true)
    ∧ (s.slots[n].offWait.isSome = true → s.slots[n].state.isPoweringOff = true)
/-- An admission read is in flight in IDENTIFYING only, and a recovery read in RECOVERING only, before the slot's lane
trains (R34, R27). -/
abbrev ReadsInTheirStates (s : State) : Prop :=
  ∀ n : SlotId,
    (s.readers[n].line = some .admission → s.slots[n].state = .identifying)
    ∧ (s.readers[n].line = some .recovery →
        s.slots[n].state = .recovering ∧ s.slots[n].readDone = false ∧ s.lanes[n].status ≠ .training)
/-- The admission queue holds slots in AWAITING(BUDGET) only, none twice (R12). -/
abbrev QueueWaits (s : State) : Prop :=
  s.sc.queue.Nodup ∧ ∀ n : SlotId, n ∈ s.sc.queue → s.slots[n].state = .awaiting .budget
/-- The slot records, the lanes, the read contexts and the admission queue agree with one another. -/
abbrev SlotsCoherent (s : State) : Prop :=
  PowerAsTabled s ∧ LanesFollowSlots s ∧ TimersInTheirStates s ∧ ReadsInTheirStates s ∧ QueueWaits s

/-- A slot in any state other than ACTIVE or DRAINING has no outstanding credit (R85). -/
abbrev CreditInServiceOnly (s : State) : Prop :=
  ∀ n : SlotId, s.slots[n].state.inTraffic = false → slotOutstanding s.buffer n = 0
/-- A TXG that is on has every transmit condition (R147). -/
abbrev TxgVouched (s : State) : Prop := ∀ n : SlotId, s.gates.slots[n].txg = true → mayTransmit s n = true
/-- Every window of the active pattern and of the staged one has its start before its end and lies within its frame (R141). -/
abbrev PatternsProper (s : State) : Prop :=
  (∀ w ∈ s.gates.active.windows, w.start < w.stop ∧ w.stop ≤ 1228800)
    ∧ ∀ p ∈ s.gates.staged, ∀ w ∈ p.1.windows, w.start < w.stop ∧ w.stop ≤ 1228800
/-- A TXG that is on lies inside a window occurrence (R147, R148). -/
abbrev TxgInside (s : State) : Prop :=
  ∀ n : SlotId, s.gates.slots[n].txg = true → ∃ o ∈ occurrences s, o.inside (slotCoord s n) = true
/-- While the cutoff latch is SET, no slot is in a powered state or in SHED (R24, R57). -/
abbrev CutoffHolds (s : State) : Prop :=
  s.budget.latch.isSome = true → ∀ n : SlotId, s.slots[n].state.cutOff = false
/-- Outside an episode and outside a cutoff the committed draw is within the effective capacity (R52). -/
abbrev DrawWithinCapacity (s : State) : Prop :=
  s.budget.episode = false → s.budget.latch = none → committed s ≤ s.budget.effective

/-! ### Tables, pools and ranges -/

/-- The forwarding table is kept by rising address and holds at most 96 entries, so no address stands twice (R67). -/
abbrev EntriesDistinct (s : State) : Prop :=
  s.routes.table.Pairwise (fun a b => a.address < b.address) ∧ s.routes.table.length ≤ 96
/-- The alarm table holds at most 48 records and never two with the same code, source and subcode (R158). -/
abbrev AlarmsDistinct (s : State) : Prop :=
  s.alarms.table.length ≤ 48
    ∧ s.alarms.table.Pairwise (fun a b => ¬(a.code = b.code ∧ a.source = b.source ∧ a.subcode = b.subcode))
/-- The blocks always add up to 512 (R83); stored packets have names of their own, given before the next one, and a
packet in reception was placed within credit that is still outstanding (R88). -/
abbrev PoolBalanced (s : State) : Prop :=
  s.buffer.free + storedBlocks s.buffer + outstandingBlocks s.buffer = 512
    ∧ s.buffer.stored.Pairwise (fun a b => a.id ≠ b.id)
    ∧ (∀ d ∈ s.buffer.stored, d.id < s.buffer.nextId)
    ∧ ∀ n : SlotId, ∀ r ∈ s.lanes[n].reception,
        r.credit ≤ (perClass s.buffer.credits[n] (packetClass r.block)).outstanding
/-- The steering word stays within ±429,496, and the integral within ±262,144 (R120). -/
abbrev SteeringInRange (s : State) : Prop :=
  -429496 ≤ s.tb.steer ∧ s.tb.steer ≤ 429496 ∧ -262144 ≤ s.tb.integral ∧ s.tb.integral ≤ 262144
/-- Every D stays within 0 to 4,096 and every C within 0 to 65,535, whether in force or staged (R125). -/
abbrev CompensationInRange (s : State) : Prop :=
  ∀ n : SlotId, (∀ v ∈ s.timing[n].values, v.1 ≤ 4096 ∧ v.2 ≤ 65535)
    ∧ (∀ v ∈ s.timing[n].staged, v.delay ≤ 4096 ∧ v.comp ≤ 65535)
/-- The request queue holds at most 4 frames, and the transmit queue at most 4 replies and 4 notices (R170, R173). -/
abbrev LinkBounded (s : State) : Prop :=
  s.mgmt.requests.length ≤ 4 ∧ repliesQueued s.mgmt ≤ 4 ∧ noticesQueued s.mgmt ≤ 4

/-! ### Requests -/

/-- The command is a request of the management link: an unknown kind, or a row of one of the 31 kinds. -/
def isRequest : Instr → Bool
  | .fullReset _ _ | .presentRawChange _ | .presentFilteredChange _ | .latchRawChange _ | .latchFilteredChange _
  | .pwrGoodAssert _ | .pwrGoodHoldComplete _ | .pwrGoodDeassert _ | .inrushWindowExpiry _ | .laneTrainingLimitExpiry _
  | .laneUp _ | .drainLimitExpiry _ | .laneQuietMarker _ | .powerOffWaitExpiry _ | .identityBlockCompletion _ _
  | .packetReceptionStart _ _ | .packetOverlength _ | .packetTrailer _ _ _ | .transmissionEnd _ | .creditMessageSend _
  | .frameBoundary | .edgeTaken _ | .referenceSilenceExpiry _ | .holdoverSecond | .probeStart _ | .probePulseEnd _
  | .probeWindowExpiry _ | .framePulseStart _ | .framePulseEnd _ | .windowApproach _ | .txgRise _ | .windowEnd _
  | .guardHoldExpiry _ | .alarmInputRawChange _ | .alarmInputFilteredChange _ | .mgmtFrameArrival _
  | .mgmtFrameDiscard _ | .mgmtInterByteTimeout | .mgmtFrameTransmitEnd | .restartTakeEffect | .timebaseAdvance _ _
  | .mgmtByteReceived _ => false
  | .unknownKindRequest _ _ | .partInfo _ _ | .restart _ _ | .slotPolicySet _ _ | .slotAdmit _ _ | .slotRelease _ _
  | .slotPowerCycle _ _ | .slotClearFault _ _ | .slotRead _ _ | .identityReadStart _ _ | .identityReadFetch _ _
  | .budgetSet _ _ | .budgetRead _ _ | .cutoff _ _ | .cutoffRelease _ _ | .routeSet _ _ | .routeClear _ _
  | .routeReadEntry _ _ | .routeReadTable _ _ | .routeReadGroups _ _ | .routeReadDomains _ _ | .groupSet _ _
  | .domainSet _ _ | .domainLock _ _ | .queueSet _ _ | .countersReadCounters _ _ | .countersReadBuffer _ _
  | .timingSet _ _ | .timingRead _ _ | .delayMeasureStart _ _ | .delayMeasureRead _ _ | .trimSet _ _
  | .patternStage _ _ | .patternReadPatterns _ _ | .patternReadSlot _ _ | .alarmReadTable _ _ | .alarmReadInputs _ _
  | .alarmReadRelays _ _ | .alarmAck _ _ | .inputSet _ _ | .relaySet _ _ => true

/-- The refusal reason of a defective payload (R171, R182): none where the payload holds fields. -/
def bodyDefect {α : Type} : Body α → Option Reason
  | .fields _ => none
  | .malformed => some .malformed
  | .badByte => some .badField
/-- The request kind, tag and defect of a request of one of the 31 kinds, and UNKNOWN_KIND of any other. -/
def requestDefect : Instr → Option (Nat × Byte × Reason)
  | .unknownKindRequest kind tag => some (kind.toNat, tag, .unknownKind)
  | .partInfo tag b => (bodyDefect b).map (1, tag, ·)
  | .restart tag b => (bodyDefect b).map (2, tag, ·)
  | .slotPolicySet tag b => (bodyDefect b).map (3, tag, ·)
  | .slotAdmit tag b => (bodyDefect b).map (4, tag, ·)
  | .slotRelease tag b => (bodyDefect b).map (5, tag, ·)
  | .slotPowerCycle tag b => (bodyDefect b).map (6, tag, ·)
  | .slotClearFault tag b => (bodyDefect b).map (7, tag, ·)
  | .slotRead tag b => (bodyDefect b).map (8, tag, ·)
  | .identityReadStart tag b => (bodyDefect b).map (9, tag, ·)
  | .identityReadFetch tag b => (bodyDefect b).map (9, tag, ·)
  | .budgetSet tag b => (bodyDefect b).map (10, tag, ·)
  | .budgetRead tag b => (bodyDefect b).map (11, tag, ·)
  | .cutoff tag b => (bodyDefect b).map (12, tag, ·)
  | .cutoffRelease tag b => (bodyDefect b).map (13, tag, ·)
  | .routeSet tag b => (bodyDefect b).map (14, tag, ·)
  | .routeClear tag b => (bodyDefect b).map (15, tag, ·)
  | .routeReadEntry tag b => (bodyDefect b).map (16, tag, ·)
  | .routeReadTable tag b => (bodyDefect b).map (16, tag, ·)
  | .routeReadGroups tag b => (bodyDefect b).map (16, tag, ·)
  | .routeReadDomains tag b => (bodyDefect b).map (16, tag, ·)
  | .groupSet tag b => (bodyDefect b).map (17, tag, ·)
  | .domainSet tag b => (bodyDefect b).map (18, tag, ·)
  | .domainLock tag b => (bodyDefect b).map (19, tag, ·)
  | .queueSet tag b => (bodyDefect b).map (20, tag, ·)
  | .countersReadCounters tag b => (bodyDefect b).map (21, tag, ·)
  | .countersReadBuffer tag b => (bodyDefect b).map (21, tag, ·)
  | .timingSet tag b => (bodyDefect b).map (22, tag, ·)
  | .timingRead tag b => (bodyDefect b).map (23, tag, ·)
  | .delayMeasureStart tag b => (bodyDefect b).map (24, tag, ·)
  | .delayMeasureRead tag b => (bodyDefect b).map (24, tag, ·)
  | .trimSet tag b => (bodyDefect b).map (25, tag, ·)
  | .patternStage tag b => (bodyDefect b).map (26, tag, ·)
  | .patternReadPatterns tag b => (bodyDefect b).map (27, tag, ·)
  | .patternReadSlot tag b => (bodyDefect b).map (27, tag, ·)
  | .alarmReadTable tag b => (bodyDefect b).map (28, tag, ·)
  | .alarmReadInputs tag b => (bodyDefect b).map (28, tag, ·)
  | .alarmReadRelays tag b => (bodyDefect b).map (28, tag, ·)
  | .alarmAck tag b => (bodyDefect b).map (29, tag, ·)
  | .inputSet tag b => (bodyDefect b).map (30, tag, ·)
  | .relaySet tag b => (bodyDefect b).map (31, tag, ·)
  | .fullReset _ _ | .presentRawChange _ | .presentFilteredChange _ | .latchRawChange _ | .latchFilteredChange _
  | .pwrGoodAssert _ | .pwrGoodHoldComplete _ | .pwrGoodDeassert _ | .inrushWindowExpiry _ | .laneTrainingLimitExpiry _
  | .laneUp _ | .drainLimitExpiry _ | .laneQuietMarker _ | .powerOffWaitExpiry _ | .identityBlockCompletion _ _
  | .packetReceptionStart _ _ | .packetOverlength _ | .packetTrailer _ _ _ | .transmissionEnd _ | .creditMessageSend _
  | .frameBoundary | .edgeTaken _ | .referenceSilenceExpiry _ | .holdoverSecond | .probeStart _ | .probePulseEnd _
  | .probeWindowExpiry _ | .framePulseStart _ | .framePulseEnd _ | .windowApproach _ | .txgRise _ | .windowEnd _
  | .guardHoldExpiry _ | .alarmInputRawChange _ | .alarmInputFilteredChange _ | .mgmtFrameArrival _
  | .mgmtFrameDiscard _ | .mgmtInterByteTimeout | .mgmtFrameTransmitEnd | .restartTakeEffect | .timebaseAdvance _ _
  | .mgmtByteReceived _ => none

/-- A request can be executed now: no RESTART waits for its reply (R177), a reply place is free (R170), and the request
is the head of the request queue, or the queue is empty and the command brings it (log 14). -/
abbrev Ready (c : Instr) (s : State) : Prop :=
  s.mgmt.restart = .none ∧ repliesQueued s.mgmt < 4 ∧ ∀ f ∈ s.mgmt.requests.head?, parseRequest f = c
/-- The state with the head of the request queue taken out. -/
abbrev headTaken (s : State) : State := { s with mgmt := { s.mgmt with requests := s.mgmt.requests.tail } }
/-- The state with the head taken and an ACCEPTED reply placed. -/
abbrev accepted (kind : Nat) (tag : Byte) (data : List Byte) (s : State) : State := accept kind tag data (headTaken s)
/-- The state with the head taken and a REFUSED reply placed. -/
abbrev refused (kind : Nat) (tag : Byte) (reason : Reason) (s : State) : State := refuse kind tag reason (headTaken s)

/-- The next frame to join the transmit queue after `s` is this reply; whatever else joins stands behind it (R171). -/
abbrev Answered (tag : Byte) (payload : List Byte) (s t : State) : Prop :=
  (s.mgmt.transmit ++ [⟨true, ⟨kindReply, tag, payload⟩⟩]) <+: t.mgmt.transmit
/-- Bytes arrive on the management line one after the other. -/
def receiveAll : List Byte → State → Out State
  | [], s => .next s
  | b :: r, s =>
    match exec (.mgmtByteReceived b) s with
    | .next t => receiveAll r t
    | .fault e => .fault e
    | .refused e => .refused e

/-! ### Packets -/

/-- The reception of a slot is over, and nothing else has changed yet (R65). -/
abbrev receptionOver (n : SlotId) (s : State) : State := s.setLane n { s.lanes[n] with reception := none }
/-- The copies of a packet that the domain test refuses are counted, and DOMAIN_VIOLATION is raised once for them (R75). -/
abbrev forbiddenNoted (n : SlotId) (copies : Nat) (s : State) : State :=
  if copies = 0 then s else raiseEvent .domainViolation (.slot n) 0 .minor (countDiscards .forbidden copies s)

/-! ### The oscillator and the gates -/

/-- The timebase's items are in the ranges of R104 that its arithmetic rests on. -/
abbrev TimebaseInRange (tb : Timebase) : Prop :=
  tb.p < 1228800 ∧ tb.acc < 4294967296 ∧ -429496 ≤ tb.steer ∧ tb.steer ≤ 429496
/-- No occurrence but `o` acts on a gate at a position past `u`, up to `v`. -/
abbrev AloneUpTo (occs : List Placed) (o : Placed) (u v : Nat) : Prop :=
  ∀ q ∈ occs, q ≠ o → ∀ x ∈ q.positions, ¬(u < x ∧ x ≤ v)

/-! ### References and the quality machine -/

/-- The next edge of the filter is a rising one, and its source can serve (R107, R109). -/
abbrev RisingEdge (src : Ref) (s : State) : Prop := (edgeFilter s.tb src).level = false ∧ canServe s src = true
/-- The next edge of the filter is a plausible rising edge of the selected reference (R110, R111). -/
abbrev SelectedEdge (src : Ref) (q : RefRec) (last : Nat) (s : State) : Prop :=
  RisingEdge src s ∧ s.tb.selected = some src ∧ refRec s.tb src = some q ∧ q.qualified = true ∧ q.lastEdge = some last
    ∧ plausibleGap s.tb.osc last = true
/-- The quality is ACQUIRING with this origin and a step asked for, the pulse hold is set, and the counts are
0 (R113 to R115, R136). -/
abbrev StepAsked (o : QOrigin) (t : State) : Prop :=
  t.tb.quality = .acquiring o ∧ t.tb.stepPending = true ∧ t.pulseHold = true ∧ t.tb.goodCount = 0 ∧ t.tb.jumpCount = 0

/-- The selection has moved from one qualified source to another (R114, R115): in LOCKED the next edge of the new one decides,
in ACQUIRING a step is asked for, and the timebase runs on as it did. -/
abbrev SelectionMoved (src : Ref) (s t : State) : Prop :=
  t.tb.selected = some src ∧ t.tb.everSelected = true
    ∧ (match s.tb.quality with
      | .locked => t.tb.quality = .locked ∧ t.tb.switchPending = true ∧ t.tb.stepPending = s.tb.stepPending
          ∧ t.tb.jumpCount = s.tb.jumpCount ∧ t.pulseHold = s.pulseHold
      | .acquiring o => StepAsked o t ∧ t.tb.switchPending = s.tb.switchPending
      | .freerun => StepAsked .free t
      | .holdover => StepAsked .held t)
    ∧ t.tb.p = s.tb.p ∧ t.tb.cfc = s.tb.cfc ∧ t.tb.integral = s.tb.integral ∧ t.tb.steer = s.tb.steer

/-! ### Conditions -/

/-- The condition of an alarm is present, as its block answers at the rebuild of the alarm table (R167): inputs that are active,
the latch, the episode and the shortfall, fault reasons, DELAY_UNSTABLE, the report sets, and the timing quality. -/
def conditionPresent (s : State) (code : AlarmCode) (src : AlarmSource) (sub : Nat) : Bool :=
  match code, src with
  | .inputActive, .input i => sub == 0 && s.alarms.inputs[i].isActive
  | .cutoffActive, .part => sub == 0 && s.budget.latch.isSome
  | .budgetShedding, .part => sub == 0 && s.budget.episode
  | .budgetExceeded, .part => sub == 0 && s.budget.exceeded
  | .slotFault, .slot n => s.slots[n].state.faultReason == some sub
  | .delayUnstable, .slot n => sub == 0 && s.timing[n].unstableRaised
  | .cardReport, .slot n => s.routes.reports[n].any fun x => x.1 == sub
  | .timingHoldover, .part => sub == 0 && s.tb.quality == .holdover
  | .timingFreerun, .part => sub == 0 && s.tb.quality == .freerun && s.tb.everSelected
  | _, _ => false

/-! ### Frames -/

/-- No slot waits for power, none is shed, and the draw fits: an event after which the draw has not risen gives the Power
Budget Unit nothing to do (R50, R52). -/
abbrev BudgetQuiet (s : State) : Prop :=
  s.budget.latch = none ∧ s.budget.episode = false ∧ s.budget.shedList = [] ∧ s.sc.queue = []
    ∧ s.budget.restoring = none ∧ committed s ≤ s.budget.effective
/-- Every slot but `n` keeps its slot record, read context, lane and timing record. -/
abbrev OthersKept (n : SlotId) (s t : State) : Prop :=
  ∀ m : SlotId, m ≠ n → t.slots[m] = s.slots[m] ∧ t.readers[m] = s.readers[m] ∧ t.lanes[m] = s.lanes[m]
    ∧ t.timing[m] = s.timing[m]
/-- A slot waits in the admission queue only in AWAITING(BUDGET): the part of `QueueWaits` that is about one slot (R12). -/
abbrev QueuedOnlyWaiting (n : SlotId) (s : State) : Prop := n ∈ s.sc.queue → s.slots[n].state = .awaiting .budget

/-- A slot has been taken down (R25): PWR_EN is off, nothing of it is in flight, its lane is DOWN, its timing record is OFF
with its trim kept, its gates are off, its reports are cleared and no learned entry is bound to it. -/
abbrev TakenDown (n : SlotId) (s t : State) : Prop :=
  t.slots[n].pwrEn = false ∧ t.slots[n].goodHold = none ∧ t.slots[n].inrushWindow = none ∧ t.slots[n].trainLimit = none
    ∧ t.slots[n].drainLimit = none ∧ t.lanes[n] = ⟨.down, false, none⟩
    ∧ t.timing[n] = { TimingRec.reset with trim := s.timing[n].trim } ∧ t.gates.slots[n] = ⟨false, none, 0⟩
    ∧ t.routes.reports[n] = [] ∧ ∀ e ∈ t.routes.table, ¬(e.origin = .learned ∧ e.target = .slot n)
/-- The power of a slot with off purpose `p` is off (R17): its draw no longer counts, its wait is over, and it has gone where
the purpose sends it, or to EMPTY where its card has gone. A shed slot on top of the shed list can be restored in the same
step, so that case is left open. -/
abbrev PowerIsOff (n : SlotId) (p : OffPurpose) (s t : State) : Prop :=
  t.slots[n].pwrEn = false ∧ t.slots[n].drawCounted = 0 ∧ t.slots[n].offWait = none ∧ t.lanes[n] = ⟨.down, false, none⟩
    ∧ t.routes.reports[n] = [] ∧ (∀ e ∈ t.routes.table, ¬(e.origin = .learned ∧ e.target = .slot n))
    ∧ (s.slots[n].present = false → t.slots[n].state = .empty)
    ∧ (s.slots[n].present = true → match p with
        | .normal => t.slots[n].state = .poweredDown
        | .shed => s.budget.shedList.head? ≠ some n → t.slots[n].state = .shed
        | .cycle => t.slots[n].state =
            if s.slots[n].latchClosed = true ∧ s.readers[n].line = none then .identifying else .detected)

/-- Everything that the control processor sets and the part itself never changes has kept its value (R5, R31, R61, R73, R76,
R77, R101, R123, R139, R152, R163, R168). -/
abbrev SettingsKept (s t : State) : Prop :=
  (∀ n : SlotId, t.slots[n].policy = s.slots[n].policy ∧ t.slots[n].priorityByHost = s.slots[n].priorityByHost
      ∧ t.slots[n].txInhibit = s.slots[n].txInhibit ∧ t.routes.domains[n] = s.routes.domains[n]
      ∧ t.timing[n].trim = s.timing[n].trim ∧ t.buffer.ports[n].limits = s.buffer.ports[n].limits
      ∧ t.buffer.ports[n].sQuantum = s.buffer.ports[n].sQuantum ∧ t.buffer.ports[n].bQuantum = s.buffer.ports[n].bQuantum
      ∧ t.buffer.credits[n].t.limit = s.buffer.credits[n].t.limit
      ∧ t.buffer.credits[n].c.limit = s.buffer.credits[n].c.limit
      ∧ t.buffer.credits[n].s.limit = s.buffer.credits[n].s.limit
      ∧ t.buffer.credits[n].b.limit = s.buffer.credits[n].b.limit)
    ∧ (∀ i : InputId, t.alarms.inputs[i].polarity = s.alarms.inputs[i].polarity
      ∧ t.alarms.inputs[i].debounce = s.alarms.inputs[i].debounce ∧ t.alarms.inputs[i].action = s.alarms.inputs[i].action
      ∧ t.alarms.inputs[i].severity = s.alarms.inputs[i].severity)
    ∧ (∀ g : GroupId, t.routes.groups[g] = s.routes.groups[g])
    ∧ t.sc.debounce = s.sc.debounce ∧ t.sc.inrush = s.sc.inrush ∧ t.sc.drain = s.sc.drain
    ∧ t.budget.mains = s.budget.mains ∧ t.budget.battery = s.budget.battery ∧ t.budget.thermal = s.budget.thermal
    ∧ t.routes.join12 = s.routes.join12 ∧ t.routes.join13 = s.routes.join13 ∧ t.routes.join23 = s.routes.join23
    ∧ t.routes.locked = s.routes.locked
    ∧ t.tb.refs.map (·.src) = s.tb.refs.map (·.src) ∧ t.tb.revertive = s.tb.revertive
    ∧ t.tb.cableDelay = s.tb.cableDelay ∧ t.tb.refOffset = s.tb.refOffset ∧ t.tb.holdoverLimit = s.tb.holdoverLimit
    ∧ t.tb.samplePeriod = s.tb.samplePeriod
    ∧ t.alarms.criticalMode = s.alarms.criticalMode ∧ t.alarms.majorMode = s.alarms.majorMode
    ∧ t.alarms.minorMode = s.alarms.minorMode ∧ t.mgmt.lineRate = s.mgmt.lineRate
/-- The commands that change settings: a full reset and the requests whose kind sets something. -/
def isSetting : Instr → Bool
  | .fullReset _ _ | .slotPolicySet _ _ | .budgetSet _ _ | .groupSet _ _ | .domainSet _ _ | .domainLock _ _
  | .queueSet _ _ | .timingSet _ _ | .trimSet _ _ | .inputSet _ _ | .relaySet _ _ => true
  | .presentRawChange _ | .presentFilteredChange _ | .latchRawChange _ | .latchFilteredChange _ | .pwrGoodAssert _
  | .pwrGoodHoldComplete _ | .pwrGoodDeassert _ | .inrushWindowExpiry _ | .laneTrainingLimitExpiry _ | .laneUp _
  | .drainLimitExpiry _ | .laneQuietMarker _ | .powerOffWaitExpiry _ | .identityBlockCompletion _ _
  | .packetReceptionStart _ _ | .packetOverlength _ | .packetTrailer _ _ _ | .transmissionEnd _ | .creditMessageSend _
  | .frameBoundary | .edgeTaken _ | .referenceSilenceExpiry _ | .holdoverSecond | .probeStart _ | .probePulseEnd _
  | .probeWindowExpiry _ | .framePulseStart _ | .framePulseEnd _ | .windowApproach _ | .txgRise _ | .windowEnd _
  | .guardHoldExpiry _ | .alarmInputRawChange _ | .alarmInputFilteredChange _ | .mgmtFrameArrival _
  | .mgmtFrameDiscard _ | .mgmtInterByteTimeout | .mgmtFrameTransmitEnd | .restartTakeEffect | .unknownKindRequest _ _
  | .partInfo _ _ | .restart _ _ | .slotAdmit _ _ | .slotRelease _ _ | .slotPowerCycle _ _ | .slotClearFault _ _
  | .slotRead _ _ | .identityReadStart _ _ | .identityReadFetch _ _ | .budgetRead _ _ | .cutoff _ _ | .cutoffRelease _ _
  | .routeSet _ _ | .routeClear _ _ | .routeReadEntry _ _ | .routeReadTable _ _ | .routeReadGroups _ _
  | .routeReadDomains _ _ | .countersReadCounters _ _ | .countersReadBuffer _ _ | .timingRead _ _
  | .delayMeasureStart _ _ | .delayMeasureRead _ _ | .patternStage _ _ | .patternReadPatterns _ _
  | .patternReadSlot _ _ | .alarmReadTable _ _ | .alarmReadInputs _ _ | .alarmReadRelays _ _ | .alarmAck _ _
  | .timebaseAdvance _ _ | .mgmtByteReceived _ => false

/-! ### Identity blocks -/

/-- A block completion that gathers the data `d`, after which `k` is the last block corrected so far (R35, R37). -/
abbrev Gathers (a : Option IdBlock) (r : ReadContext) (d : BitVec 64) (k : Option Nat) : Prop :=
  decodeAnswer a = .clean d ∧ k = r.corrected ∨ decodeAnswer a = .corrected d ∧ k = some r.nextBlock
/-- The read status at the decoding end, by the last block corrected (R39). -/
def readStatus (k : Option Nat) : ReadStatus := if k.isSome then .corrected else .clean
/-- ID_CORRECTED is raised where a block was corrected, with the last one as its subcode (R39). -/
def correctedNoted (n : SlotId) (k : Option Nat) (s : State) : State :=
  match k with
  | some b => raiseEvent .idCorrected (.slot n) b .warning s
  | none => s

/-- A host read has left this result, and its slot, which waited in DETECTED, is identified by an admission read (R34,
R44). -/
abbrev IdentifiedAfterHost (n : SlotId) (result : HostResult) (s t : State) : Prop :=
  t.slots[n].state = .identifying ∧ t.slots[n].identity = none ∧ t.readers[n].line = some .admission
    ∧ t.readers[n].nextBlock = 1 ∧ t.readers[n].host = result ∧ OthersKept n s t

/-- A received block with one of its 72 bits inverted: 0 to 63 are the data bits, 64 to 71 the bits of the check byte
(R36). -/
def flipBit (b : IdBlock) (k : Nat) : IdBlock :=
  if k < 64 then { b with data := b.data ^^^ BitVec.ofNat 64 (2 ^ k) }
  else { b with check := b.check ^^^ BitVec.ofNat 8 (2 ^ (k - 64)) }
/-- A block as it stands in a memory without error: the check bits agree with the data, and overall parity agrees. -/
abbrev WrittenWell (b : IdBlock) : Prop := syndrome b = 0 ∧ parityAgrees b = true

end Sys2Proof.Machine
end

