-- ==== Sys2Proof/Certificates/Slice0/Obligations.lean ====
section
/-! DEFINITION. The statements for the provers, one definition each. OBLIGATIONS.json says which rule of spec/ each one
formalises. -/

open Sys2Proof Sys2Proof.Machine

/-! ### Steps, resets and the management link -/

/-- A step runs the command at the front of the queue on the state with the queue's rest; on an empty queue the part
idles, which is the model's choice (log 1). -/
def Obligations.StepRunsFrontCommand : Prop :=
  ∀ (c : Instr) (rest : List Instr) (s : State),
    (s.pending = c :: rest → step s = exec c { s with pending := rest })
    ∧ (s.pending = [] → step s = .next s)

/-- Every command answers a next state in every state, and no command changes the queue of the commands behind it. -/
def Obligations.EveryCommandAnswersAndKeepsQueue : Prop :=
  ∀ (c : Instr) (s : State), ∃ t : State, exec c s = .next t ∧ t.pending = s.pending

/-- A full reset with any of its three causes sets every block to its defaults, raises PART_RESTARTED as the only record
and sends its notice; the pins of the inputs go on showing their levels (log 2). The values that no rule gives are the
model's choice (logs 3, 4 and 33). -/
def Obligations.FullResetSetsDefaults : Prop :=
  ∀ (cause : ResetCause) (strap : LineRate) (s : State),
    ∃ t : State, exec (.fullReset cause strap) s = .next t
      ∧ (∀ n : SlotId, t.slots[n].state = .empty ∧ t.slots[n].identity = none ∧ t.slots[n].policy = .approval
          ∧ t.slots[n].waived = false ∧ t.slots[n].priority = 4 ∧ t.slots[n].priorityByHost = false
          ∧ t.slots[n].txInhibit = false ∧ t.slots[n].drawCounted = 0 ∧ t.slots[n].lastChange = 0
          ∧ t.slots[n].pwrEn = false ∧ t.slots[n].present = false ∧ t.slots[n].latchClosed = false
          ∧ t.slots[n].pwrGood = s.slots[n].pwrGood ∧ t.slots[n].presentRaw = s.slots[n].presentRaw
          ∧ t.slots[n].latchRaw = s.slots[n].latchRaw)
      ∧ t.sc = ⟨50, 100, 100, []⟩
      ∧ (∀ n : SlotId, t.readers[n].line = none ∧ t.readers[n].lastOutcome = none ∧ t.readers[n].host = .none)
      ∧ t.budget = ⟨8000, 4000, 6000, 8000, false, false, [], false, false, [], none, none⟩
      ∧ t.routes.table = [] ∧ (∀ g : GroupId, t.routes.groups[g] = [])
      ∧ (∀ n : SlotId, t.routes.domains[n] = 0 ∧ t.routes.reports[n] = [])
      ∧ t.routes.join12 = false ∧ t.routes.join13 = false ∧ t.routes.join23 = false ∧ t.routes.locked = false
      ∧ t.buffer.free = 512 ∧ t.buffer.stored = [] ∧ t.buffer.lastServed = ⟨11, 11, 11, 11⟩
      ∧ (∀ n : SlotId, t.buffer.credits[n] = ⟨⟨4, 0, 0⟩, ⟨8, 0, 0⟩, ⟨16, 0, 0⟩, ⟨8, 0, 0⟩⟩
          ∧ t.buffer.ports[n] = ⟨⟨[], [], [], []⟩, none, ⟨8, 32, 96, 64⟩, 4, 2, 0, 0, false, false⟩)
      ∧ t.buffer.counters = Counters.zero
      ∧ (∀ n : SlotId, t.lanes[n] = ⟨.down, false, none⟩ ∧ t.creditMessages[n] = [])
      ∧ t.tb.p = 0 ∧ t.tb.cfc = 0 ∧ t.tb.acc = 0 ∧ t.tb.steer = 0 ∧ t.tb.integral = 0 ∧ t.tb.quality = .freerun
      ∧ t.tb.stepPending = false ∧ t.tb.switchPending = false ∧ t.tb.goodCount = 0 ∧ t.tb.jumpCount = 0
      ∧ t.tb.selected = none ∧ t.tb.everSelected = false ∧ t.tb.holdElapsed = 0 ∧ t.tb.refs = []
      ∧ t.tb.revertive = true ∧ t.tb.cableDelay = 0 ∧ t.tb.refOffset = 0 ∧ t.tb.holdoverLimit = 14400
      ∧ t.tb.samplePeriod = 2 ∧ t.tb.extFilter = ⟨false, 0, s.tb.extFilter.raw⟩
      ∧ (∀ n : SlotId, t.tb.teFilters[n] = ⟨false, 0, s.tb.teFilters[n].raw⟩)
      ∧ t.tb.lastError = none
      ∧ (∀ n : SlotId, t.timing[n].state = .off ∧ t.timing[n].measuring = none ∧ t.timing[n].values = none
          ∧ t.timing[n].staged = none ∧ t.timing[n].trim = 0 ∧ t.timing[n].unstableRaised = false
          ∧ t.timing[n].lastAttempt = none ∧ t.timing[n].lastResult = none ∧ t.timing[n].fp = .low)
      ∧ t.pulseHold = false
      ∧ t.gates.active = ⟨0, [], 2458⟩ ∧ t.gates.staged = none ∧ t.gates.settle = 0 ∧ t.gates.maintenance = false
      ∧ (∀ n : SlotId, t.gates.slots[n] = ⟨false, none, 0⟩)
      ∧ (∀ i : InputId, t.alarms.inputs[i].polarity = .activeLow ∧ t.alarms.inputs[i].debounce = 50
          ∧ t.alarms.inputs[i].action = .report ∧ t.alarms.inputs[i].severity = .minor
          ∧ t.alarms.inputs[i].level = true ∧ t.alarms.inputs[i].raw = s.alarms.inputs[i].raw)
      ∧ t.alarms.table = [⟨.partRestarted, .part, ResetCause.number cause, .warning, false, false, 1, 0, 0⟩]
      ∧ t.alarms.overflow = false
      ∧ t.alarms.criticalMode = .latch ∧ t.alarms.majorMode = .latch ∧ t.alarms.minorMode = .latch
      ∧ t.mgmt = ⟨.hunt, [], [⟨false, ⟨0x42, 0, [1, 0, 0, 0, byteOf (ResetCause.number cause), 0, 1, 0, 1, 0, 0, 0, 0, 0,
          0, 0, 0, 0, 0]⟩⟩], false, 0, strap, cause, 0, .none⟩
      ∧ t.pending = s.pending

/-- The state right after a power-on reset meets every invariant that the other statements say each step keeps. -/
def Obligations.ResetMeetsEveryInvariant : Prop :=
  SlotsCoherent State.reset ∧ CreditInServiceOnly State.reset ∧ TxgVouched State.reset ∧ CutoffHolds State.reset
    ∧ DrawWithinCapacity State.reset ∧ EntriesDistinct State.reset ∧ AlarmsDistinct State.reset
    ∧ PoolBalanced State.reset ∧ SteeringInRange State.reset ∧ CompensationInRange State.reset
    ∧ LinkBounded State.reset ∧ TimebaseInRange State.reset.tb ∧ PatternsProper State.reset ∧ TxgInside State.reset

/-- Every well-formed request is read back from the frame that the wire layouts give it, whatever its fields hold, and
its payload fits a frame. The layouts that the wire rules leave open are the model's choice (log 12). -/
def Obligations.RequestsParseBack : Prop :=
  ∀ (c : Instr) (f : Frame), c.WellFormed → encodeRequest c = some f → parseRequest f = c ∧ f.payload.length ≤ 250

/-- From HUNT, the bytes of any frame, taken one by one, make it whole and let it arrive; with any other CRC the same
bytes are discarded and counted. -/
def Obligations.FrameBytesMakeFrameWhole : Prop :=
  ∀ (f : Frame) (a b : Byte) (s : State), s.mgmt.receiver = .hunt → f.payload.length ≤ 250 →
    receiveAll f.bytes s = .next (arrive f s)
    ∧ ([a, b] ≠ be16 (crc16 f.covered).toNat →
        receiveAll ([0xA5] ++ f.covered ++ [a, b]) s = .next (countDiscardedFrame s))

/-- The receiver's bytes, discards and gap, a whole frame's arrival at the request queue, and the end of a frame's
transmission, each with everything else unchanged; in HUNT no frame has begun, and a discard or a gap counts nothing. That
MGMT_FRAME_ARRIVAL from HUNT stands for all the frame's bytes is the model's choice (log 7). -/
def Obligations.LinkCommandsFollowQueueRules : Prop :=
  ∀ (b : Byte) (bytes : List Byte) (f : Frame) (cause : DiscardCause) (g : TxFrame) (rest : List TxFrame) (s : State),
    (s.mgmt.receiver = .hunt →
      exec (.mgmtByteReceived b) s
        = .next (if b = 0xA5 then { s with mgmt := { s.mgmt with receiver := .frame [] } } else s))
    ∧ (s.mgmt.receiver = .frame bytes → ((bytes ++ [b]).headD 0).toNat ≤ 250 →
        bytes.length + 1 < ((bytes ++ [b]).headD 0).toNat + 5 →
        exec (.mgmtByteReceived b) s = .next { s with mgmt := { s.mgmt with receiver := .frame (bytes ++ [b]) } })
    ∧ (s.mgmt.receiver = .frame [] → 250 < b.toNat →
        exec (.mgmtByteReceived b) s
          = .next { s with mgmt := { s.mgmt with receiver := .hunt, discarded := min 4294967295 (s.mgmt.discarded + 1) } })
    ∧ (s.mgmt.receiver = .frame bytes →
        exec (.mgmtFrameDiscard cause) s
          = .next { s with mgmt := { s.mgmt with receiver := .hunt, discarded := min 4294967295 (s.mgmt.discarded + 1) } }
        ∧ exec .mgmtInterByteTimeout s
          = .next { s with mgmt := { s.mgmt with receiver := .hunt, discarded := min 4294967295 (s.mgmt.discarded + 1) } })
    ∧ (s.mgmt.receiver = .hunt →
        exec (.mgmtFrameDiscard cause) s = .next s ∧ exec .mgmtInterByteTimeout s = .next s)
    ∧ (s.mgmt.receiver = .hunt → f.payload.length ≤ 250 → s.mgmt.requests.length < 4 →
        exec (.mgmtFrameArrival f) s = .next { s with mgmt := { s.mgmt with requests := s.mgmt.requests ++ [f] } })
    ∧ (s.mgmt.receiver = .hunt → f.payload.length ≤ 250 → 4 ≤ s.mgmt.requests.length → repliesQueued s.mgmt < 4 →
        exec (.mgmtFrameArrival f) s
          = .next { s with mgmt := { s.mgmt with
              transmit := s.mgmt.transmit ++ [⟨true, ⟨0x40, f.tag, [byteOf (f.kind.toNat % 128 + 128), 2]⟩⟩] } })
    ∧ (s.mgmt.receiver = .hunt → f.payload.length ≤ 250 → 4 ≤ s.mgmt.requests.length → 4 ≤ repliesQueued s.mgmt →
        exec (.mgmtFrameArrival f) s
          = .next { s with mgmt := { s.mgmt with discarded := min 4294967295 (s.mgmt.discarded + 1) } })
    ∧ (s.mgmt.transmit = g :: rest → s.mgmt.restart = .none →
        exec .mgmtFrameTransmitEnd s = .next { s with mgmt := { s.mgmt with transmit := rest } })

/-- A request changes nothing while a RESTART waits for its reply, while no reply place is free, and while another
request stands at the head of the queue. That a request's command, given when it cannot be executed, is no event is the
model's choice (log 14). -/
def Obligations.BlockedRequestWaits : Prop :=
  ∀ (c : Instr) (s : State), isRequest c = true →
    (s.mgmt.restart ≠ .none ∨ 4 ≤ repliesQueued s.mgmt ∨ ∃ f ∈ s.mgmt.requests.head?, parseRequest f ≠ c) →
    exec c s = .next s

/-- A request that can be executed and is of no request kind, or has a payload that does not fit, or a byte outside its
enumeration, is refused UNKNOWN_KIND, MALFORMED or BAD_FIELD: its place in the queue becomes free, the reply is placed,
and nothing else changes. -/
def Obligations.DefectiveRequestRefused : Prop :=
  ∀ (c : Instr) (kind : Nat) (tag : Byte) (r : Reason) (s : State), Ready c s → requestDefect c = some (kind, tag, r) →
    exec c s = .next { s with mgmt := { s.mgmt with
      requests := s.mgmt.requests.tail
      transmit := s.mgmt.transmit ++ [⟨true, ⟨0x40, tag, [byteOf (kind % 128 + 128), byteOf r.number]⟩⟩] } }

/-- A refused request changes nothing: whatever request is executed, if the reply that it places has the REFUSED bit,
then only the request queue's head and the reply have changed. -/
def Obligations.RefusedRequestChangesNothing : Prop :=
  ∀ (c : Instr) (f : TxFrame) (rest : List TxFrame) (s t : State), isRequest c = true → Ready c s → exec c s = .next t →
    t.mgmt.transmit = s.mgmt.transmit ++ f :: rest → 128 ≤ (f.frame.payload.headD 0).toNat →
    t = { s with mgmt := { s.mgmt with requests := s.mgmt.requests.tail, transmit := s.mgmt.transmit ++ [f] } }

/-- Every reading request answers ACCEPTED with the items as they stand, and changes nothing but its reply;
COUNTERS_READ also sets the counters to 0 and ALARM_READ clears the overflow flag. A number that names no item is
refused BAD_FIELD, an address without an entry NOT_FOUND. Where the manual gives a reply's items and not their order or
width, the layout is the model's choice (log 12), and the widths of PART_INFO are (log 10). -/
def Obligations.ReadsOnlyReply : Prop :=
  ∀ (tag : Byte) (n : SlotId) (k : Nat) (s : State),
    (Ready (.partInfo tag (.fields ())) s →
      exec (.partInfo tag (.fields ())) s = .next (accepted 1 tag (partInfoReply s) s))
    ∧ (Ready (.slotRead tag (.fields (slotNumber n))) s →
      exec (.slotRead tag (.fields (slotNumber n))) s = .next (accepted 8 tag (slotReadReply s n) s))
    ∧ (Ready (.identityReadFetch tag (.fields (slotNumber n))) s →
      exec (.identityReadFetch tag (.fields (slotNumber n))) s = .next (accepted 9 tag (identityFetchReply s.readers[n]) s))
    ∧ (Ready (.budgetRead tag (.fields ())) s →
      exec (.budgetRead tag (.fields ())) s = .next (accepted 11 tag (budgetReadReply s) s))
    ∧ (Ready (.routeReadEntry tag (.fields k)) s →
      exec (.routeReadEntry tag (.fields k)) s =
        .next (if k = 0 ∨ 254 < k then refused 16 tag .badField s
          else match findEntry s.routes.table k with
            | some e => accepted 16 tag (entryBytes s e) s
            | none => refused 16 tag .notFound s))
    ∧ (Ready (.routeReadTable tag (.fields k)) s →
      exec (.routeReadTable tag (.fields k)) s =
        .next (if k = 0 ∨ 254 < k then refused 16 tag .badField s else accepted 16 tag (routeTableReply s k) s))
    ∧ (Ready (.routeReadGroups tag (.fields ())) s →
      exec (.routeReadGroups tag (.fields ())) s = .next (accepted 16 tag (routeGroupsReply s) s))
    ∧ (Ready (.routeReadDomains tag (.fields ())) s →
      exec (.routeReadDomains tag (.fields ())) s
        = .next (accepted 16 tag (domainBytes s.routes ++ beFlag s.routes.locked) s))
    ∧ (Ready (.countersReadBuffer tag (.fields (slotNumber n))) s →
      exec (.countersReadBuffer tag (.fields (slotNumber n))) s = .next (accepted 21 tag (bufferReply s n) s))
    ∧ (Ready (.timingRead tag (.fields ())) s →
      exec (.timingRead tag (.fields ())) s = .next (accepted 23 tag (timingReadReply s) s))
    ∧ (Ready (.delayMeasureRead tag (.fields (slotNumber n))) s →
      exec (.delayMeasureRead tag (.fields (slotNumber n))) s = .next (accepted 24 tag (delayReadReply s n) s))
    ∧ (Ready (.patternReadPatterns tag (.fields ())) s →
      exec (.patternReadPatterns tag (.fields ())) s = .next (accepted 27 tag (patternsReply s) s))
    ∧ (Ready (.patternReadSlot tag (.fields (slotNumber n))) s →
      exec (.patternReadSlot tag (.fields (slotNumber n))) s = .next (accepted 27 tag (patternSlotReply s n) s))
    ∧ (Ready (.countersReadCounters tag (.fields ())) s →
      ∃ t : State, exec (.countersReadCounters tag (.fields ())) s = .next t
        ∧ t = { accepted 21 tag (countersReply s) s with
          buffer := { s.buffer with counters := Counters.zero }, mgmt := { (accepted 21 tag (countersReply s) s).mgmt with
            discarded := 0 } })
    ∧ (Ready (.alarmReadTable tag (.fields k)) s →
      exec (.alarmReadTable tag (.fields k)) s =
        .next (if k = 0 ∨ 48 < k then refused 28 tag .badField s
          else { accepted 28 tag (be8 s.alarms.table.length ++ beList alarmBytes ((s.alarms.table.drop (k - 1)).take 12)
              ++ beFlag s.alarms.overflow) s with alarms := { s.alarms with overflow := false } }))
    ∧ (Ready (.alarmReadInputs tag (.fields ())) s →
      exec (.alarmReadInputs tag (.fields ())) s =
        .next { accepted 28 tag (allInputs.flatMap (inputReadBytes s) ++ beFlag s.alarms.overflow) s with
          alarms := { s.alarms with overflow := false } })
    ∧ (Ready (.alarmReadRelays tag (.fields ())) s →
      exec (.alarmReadRelays tag (.fields ())) s =
        .next { accepted 28 tag (relayBytes s.alarms ++ beFlag s.alarms.overflow) s with
          alarms := { s.alarms with overflow := false } })
    ∧ (k = 0 ∨ 12 < k →
      (Ready (.slotRead tag (.fields k)) s → exec (.slotRead tag (.fields k)) s = .next (refused 8 tag .badField s))
      ∧ (Ready (.identityReadFetch tag (.fields k)) s →
        exec (.identityReadFetch tag (.fields k)) s = .next (refused 9 tag .badField s))
      ∧ (Ready (.countersReadBuffer tag (.fields k)) s →
        exec (.countersReadBuffer tag (.fields k)) s = .next (refused 21 tag .badField s))
      ∧ (Ready (.delayMeasureRead tag (.fields k)) s →
        exec (.delayMeasureRead tag (.fields k)) s = .next (refused 24 tag .badField s))
      ∧ (Ready (.patternReadSlot tag (.fields k)) s →
        exec (.patternReadSlot tag (.fields k)) s = .next (refused 27 tag .badField s)))

/-- No step lets the request queue hold more than 4 frames, or the transmit queue more than 4 replies or 4 notices. -/
def Obligations.LinkStaysBounded : Prop :=
  ∀ s t : State, LinkBounded s → step s = .next t → LinkBounded t

/-- RESTART places its reply and does nothing more until that reply has been sent; then, and not before, the restart
takes effect. -/
def Obligations.RestartWaitsForItsReply : Prop :=
  ∀ (tag : Byte) (g : TxFrame) (rest : List TxFrame) (s : State),
    (Ready (.restart tag (.fields ())) s →
      exec (.restart tag (.fields ())) s = .next { s with mgmt := { s.mgmt with
        requests := s.mgmt.requests.tail
        transmit := s.mgmt.transmit ++ [⟨true, ⟨0x40, tag, [2]⟩⟩]
        restart := .replyPlaced } })
    ∧ (s.mgmt.transmit = g :: rest → s.mgmt.restart = .replyPlaced → ¬(g.isReply = true ∧ g.frame.payload = [2]) →
        exec .mgmtFrameTransmitEnd s = .next { s with mgmt := { s.mgmt with transmit := rest } })
    ∧ (s.mgmt.transmit = g :: rest → s.mgmt.restart = .replyPlaced → g.isReply = true ∧ g.frame.payload = [2] →
        exec .mgmtFrameTransmitEnd s
          = .next { s with mgmt := { s.mgmt with transmit := rest, restart := .replySent } })
    ∧ (s.mgmt.restart ≠ .replySent → exec .restartTakeEffect s = .next s)

/-- What a RESTART keeps and what it rebuilds. Each slot goes by the table of R26; where a shedding is under way the Power
Budget Unit may order a RECOVERING slot off and restore a SHED one in the same operation. An ALIGNED slot in RECOVERING
keeps its timing record, without a measurement in flight, and its gates; every other timing record moves to OFF with its
trim, and its gates go off. The alarm table starts anew with PART_RESTARTED, whose notice is the first, and where it has the
places it holds a record of each condition that is present and of no other, in the order of the codes. That a slot already
RECOVERING stays so is the model's choice (log 15). That a trim's staged values are kept and a measurement's are not is an
inference (log 22), and so is that the FP output of a probe pulse in progress goes on, and the probe frame stays one (log 26). -/
def Obligations.RestartKeepsCabinet : Prop :=
  ∀ s : State, s.mgmt.restart = .replySent →
    ∃ t : State, exec .restartTakeEffect s = .next t
      ∧ SettingsKept s t
      ∧ (∀ n : SlotId,
          (t.slots[n].state = .recovering ∧ s.timing[n].state = .aligned →
            t.timing[n] = { s.timing[n] with
              measuring := none
              probeDue := false
              staged := if s.timing[n].measuring.isSome = true then none else s.timing[n].staged
              lastAttempt := lastAfterEnd s.timing[n] }
            ∧ ((s.gates.slots[n].txg = true → mayTransmit s n = true) → t.gates.slots[n] = s.gates.slots[n]))
          ∧ (¬(t.slots[n].state = .recovering ∧ s.timing[n].state = .aligned) →
            t.timing[n] = { TimingRec.reset with trim := s.timing[n].trim } ∧ t.gates.slots[n] = ⟨false, none, 0⟩))
      ∧ t.mgmt.transmit.head? = some ⟨false, ⟨0x42, 0,
          [1] ++ alarmBytes ⟨.partRestarted, .part, 3, .warning, false, false, 1, s.tb.cfc, s.tb.cfc⟩ ++ [0, 0]⟩⟩
      ∧ ((allSlots.map fun n => t.routes.reports[n].length).sum ≤ 11 →
          t.alarms.table.head? = some ⟨.partRestarted, .part, 3, .warning, false, false, 1, s.tb.cfc, s.tb.cfc⟩
          ∧ t.alarms.overflow = false
          ∧ (∀ r ∈ t.alarms.table.tail, r.active = true ∧ r.acknowledged = false ∧ r.firstRaise = s.tb.cfc
              ∧ r.lastChange = s.tb.cfc ∧ conditionPresent t r.code r.source r.subcode = true)
          ∧ (∀ (code : AlarmCode) (src : AlarmSource) (sub : Nat), conditionPresent t code src sub = true →
              ∃ r ∈ t.alarms.table.tail, r.code = code ∧ r.source = src ∧ r.subcode = sub)
          ∧ t.alarms.table.Pairwise (fun a b => a.code.number ≤ b.code.number))
      ∧ (t.mgmt.requests = [] ∧ t.mgmt.discarded = 0 ∧ t.mgmt.resetCause = .restart ∧ t.mgmt.resetFrame = s.tb.cfc
          ∧ t.mgmt.receiver = s.mgmt.receiver ∧ t.mgmt.restart = .none
          ∧ (∀ f ∈ t.mgmt.transmit, f.isReply = false))
      ∧ (∀ n : SlotId, t.slots[n].priority = s.slots[n].priority ∧ t.slots[n].present = s.slots[n].present
          ∧ t.slots[n].presentHold = s.slots[n].presentHold ∧ t.slots[n].latchClosed = s.slots[n].latchClosed
          ∧ t.slots[n].latchHold = s.slots[n].latchHold ∧ t.readers[n].lastOutcome = s.readers[n].lastOutcome
          ∧ t.lanes[n] = ⟨.down, false, none⟩ ∧ slotOutstanding t.buffer n = 0 ∧ portEmpty t.buffer.ports[n] = true)
      ∧ t.budget.latch = s.budget.latch ∧ t.budget.effective = s.budget.effective
      ∧ (∀ e ∈ t.routes.table, e.origin = .learned)
      ∧ t.buffer.free = 512 ∧ t.buffer.stored = [] ∧ t.buffer.counters = Counters.zero
      ∧ (t.tb.p = s.tb.p ∧ t.tb.cfc = s.tb.cfc ∧ t.tb.acc = s.tb.acc ∧ t.tb.integral = s.tb.integral
          ∧ t.tb.holdElapsed = s.tb.holdElapsed ∧ t.tb.everSelected = s.tb.everSelected ∧ t.tb.selected = none
          ∧ t.tb.stepPending = false ∧ t.tb.switchPending = false ∧ t.tb.goodCount = 0 ∧ t.tb.jumpCount = 0
          ∧ t.tb.refs.all (fun q => !q.qualified) = true
          ∧ t.tb.quality = (match s.tb.quality with
            | .locked | .acquiring .held | .holdover => Quality.holdover
            | .acquiring .free | .freerun => Quality.freerun)
          ∧ (s.tb.quality = .locked ∨ s.tb.quality = .acquiring .held → t.tb.steer = holdoverValue s.tb.integral)
          ∧ (¬(s.tb.quality = .locked ∨ s.tb.quality = .acquiring .held) → t.tb.steer = s.tb.steer))
      ∧ t.pulseHold = false
      ∧ (t.gates.active = s.gates.active ∧ t.gates.staged = s.gates.staged ∧ t.gates.settle = s.gates.settle
          ∧ t.gates.maintenance = s.gates.maintenance)
      ∧ (∀ i : InputId, t.alarms.inputs[i] = s.alarms.inputs[i])
      ∧ (∀ n : SlotId, match s.slots[n].state with
          | .powering | .training | .active | .recovering =>
            (s.budget.latch.isSome = true
                ∨ s.budget.episode = false ∧ s.budget.shedList = [] ∧ committed s ≤ s.budget.effective →
              t.slots[n].state = .recovering ∧ t.slots[n].pwrEn = true ∧ t.slots[n].identity = s.slots[n].identity
              ∧ t.slots[n].drawCounted = s.slots[n].drawCounted ∧ t.readers[n].line = some .recovery
              ∧ t.slots[n].inrushWindow = some ⟨s.tb.osc, s.sc.inrush * 122880⟩
              ∧ t.slots[n].goodHold = (if s.slots[n].pwrGood then some ⟨s.tb.osc, 614400⟩ else none))
            ∧ (t.slots[n].state = .recovering ∨ 1 ≤ s.slots[n].priority ∧ s.slots[n].priority ≤ 7
                ∧ (t.slots[n].state = .poweringOff .shed ∨ s.slots[n].pwrGood = false))
          | .draining p =>
            (s.slots[n].pwrGood = true →
              t.slots[n].state = .poweringOff p ∧ t.slots[n].pwrEn = false
              ∧ t.slots[n].drawCounted = s.slots[n].drawCounted ∧ t.slots[n].offWait = some ⟨s.tb.osc, 61440000⟩)
            ∧ (s.slots[n].pwrGood = false →
              t.slots[n].pwrEn = false ∧ t.slots[n].drawCounted = 0 ∧ t.slots[n].offWait = none
              ∧ (s.slots[n].present = false → t.slots[n].state = .empty)
              ∧ (s.slots[n].present = true → match p with
                | .normal => t.slots[n].state = .poweredDown
                | .shed => s.budget.shedList = [] → t.slots[n].state = .shed
                | .cycle => t.slots[n].state = if s.slots[n].latchClosed then .identifying else .detected))
          | .poweringOff p => t.slots[n].state = .poweringOff p ∧ t.slots[n].offWait = s.slots[n].offWait
          | .detected | .identifying | .awaiting _ =>
            t.slots[n].state = (if s.slots[n].present then
              if s.slots[n].latchClosed then .identifying else .detected else .empty)
          | .shed => (s.budget.shedList = [] ∨ s.budget.latch.isSome = true ∨ s.slots[n].present = false →
            t.slots[n].state = if s.slots[n].present then .shed else .empty)
          | .poweredDown | .faulted _ | .empty =>
            t.slots[n].state = (if s.slots[n].present then s.slots[n].state else .empty))


/-! ### The pins, timers and lane of a slot -/

/-- A raw change only records the new level and starts or abandons the hold: of PRESENT and LATCH with the part-wide
debounce, of PWR_GOOD the 5 ms hold while an inrush window is open, of an alarm input with its own debounce. That the
command gives the pin its other level is the model's choice (log 7). -/
def Obligations.RawChangesStartHolds : Prop :=
  ∀ (n : SlotId) (i : InputId) (s : State),
    exec (.presentRawChange n) s = .next (s.setSlot n { s.slots[n] with
        presentRaw := !s.slots[n].presentRaw
        presentHold := if (!s.slots[n].presentRaw) = s.slots[n].present then none
          else some ⟨s.tb.osc, s.sc.debounce * 122880⟩ })
    ∧ exec (.latchRawChange n) s = .next (s.setSlot n { s.slots[n] with
        latchRaw := !s.slots[n].latchRaw
        latchHold := if (!s.slots[n].latchRaw) = s.slots[n].latchClosed then none
          else some ⟨s.tb.osc, s.sc.debounce * 122880⟩ })
    ∧ (s.slots[n].pwrGood = true → exec (.pwrGoodAssert n) s = .next s)
    ∧ (s.slots[n].pwrGood = false →
        exec (.pwrGoodAssert n) s = .next (s.setSlot n { s.slots[n] with
          pwrGood := true
          goodHold := if s.slots[n].inrushWindow.isSome = true then some ⟨s.tb.osc, 614400⟩ else s.slots[n].goodHold }))
    ∧ exec (.alarmInputRawChange i) s = .next (s.setInput i { s.alarms.inputs[i] with
        raw := !s.alarms.inputs[i].raw
        hold := if (!s.alarms.inputs[i].raw) = s.alarms.inputs[i].level then none
          else some ⟨!s.alarms.inputs[i].raw, ⟨s.tb.osc, s.alarms.inputs[i].debounce * 122880⟩⟩ })

/-- The filtered change of PRESENT. To present, in EMPTY it detects the card, and identifies it at once where the latch
is closed and the service line is free; in any other state only the level is recorded. To absent, from every state but
EMPTY, the slot goes to EMPTY without power, draw or identity and with its read aborted, and no other slot changes where
the Power Budget Unit has nothing to do. That the command is no event where no hold runs is the model's choice (log 7). -/
def Obligations.PresentChangeMovesSlot : Prop :=
  ∀ (n : SlotId) (s : State),
    (s.slots[n].presentHold = none → exec (.presentFilteredChange n) s = .next s)
    ∧ (s.slots[n].presentHold.isSome = true → s.slots[n].present = false → s.slots[n].state = .empty →
        ∃ t : State, exec (.presentFilteredChange n) s = .next t
          ∧ t.slots[n].present = true ∧ t.slots[n].presentHold = none ∧ t.slots[n].lastChange = s.tb.cfc
          ∧ (s.slots[n].latchClosed = true ∧ s.readers[n].line = none →
              t.slots[n].state = .identifying ∧ t.slots[n].identity = none
              ∧ t.readers[n] = { s.readers[n] with
                  line := some .admission, nextBlock := 1, reread := false, blocks := [], corrected := none })
          ∧ (¬(s.slots[n].latchClosed = true ∧ s.readers[n].line = none) →
              t.slots[n].state = .detected ∧ t.readers[n] = s.readers[n])
          ∧ OthersKept n s t ∧ t.alarms = s.alarms ∧ t.budget = { s.budget with powerOn := t.budget.powerOn }
          ∧ t.buffer = s.buffer ∧ t.routes = s.routes ∧ t.tb = s.tb ∧ t.gates = s.gates)
    ∧ (s.slots[n].presentHold.isSome = true → s.slots[n].present = false → s.slots[n].state ≠ .empty →
        exec (.presentFilteredChange n) s
          = .next (s.setSlot n { s.slots[n] with present := true, presentHold := none }))
    ∧ (s.slots[n].presentHold.isSome = true → s.slots[n].present = true → s.slots[n].state ≠ .empty → PowerAsTabled s →
        QueuedOnlyWaiting n s →
        ∃ t : State, exec (.presentFilteredChange n) s = .next t
          ∧ t.slots[n].state = .empty ∧ t.slots[n].present = false ∧ t.slots[n].presentHold = none
          ∧ t.slots[n].identity = none ∧ t.slots[n].waived = false ∧ t.slots[n].pwrEn = false
          ∧ t.slots[n].drawCounted = 0 ∧ t.slots[n].lastChange = s.tb.cfc ∧ t.readers[n].line = none
          ∧ (s.readers[n].line = some .host → t.readers[n].host = .aborted)
          ∧ n ∉ t.sc.queue
          ∧ (s.slots[n].state.pwrOn = true → TakenDown n s t)
          ∧ (BudgetQuiet s → OthersKept n s t))

/-- The filtered change of LATCH, by slot state: a closing identifies a card in DETECTED or POWERED_DOWN, an opening
takes the slot to where the state's rule sends it and aborts the read. While no card is present the level is only
recorded. That the command is no event where no hold runs is the model's choice (log 7). -/
def Obligations.LatchChangeMovesSlot : Prop :=
  ∀ (n : SlotId) (s : State),
    (s.slots[n].latchHold = none → exec (.latchFilteredChange n) s = .next s)
    ∧ (s.slots[n].latchHold.isSome = true → s.slots[n].present = false →
        exec (.latchFilteredChange n) s
          = .next (s.setSlot n { s.slots[n] with latchClosed := !s.slots[n].latchClosed, latchHold := none }))
    ∧ (s.slots[n].latchHold.isSome = true → s.slots[n].present = true → s.slots[n].latchClosed = false →
        ∃ t : State, exec (.latchFilteredChange n) s = .next t
          ∧ t.slots[n].latchClosed = true ∧ t.slots[n].latchHold = none ∧ OthersKept n s t
          ∧ (s.slots[n].state = .detected ∨ s.slots[n].state = .poweredDown →
              (s.readers[n].line = none → t.slots[n].state = .identifying ∧ t.readers[n] = { s.readers[n] with
                line := some .admission, nextBlock := 1, reread := false, blocks := [], corrected := none })
              ∧ (s.readers[n].line ≠ none → t.slots[n].state = .detected ∧ t.readers[n] = s.readers[n]))
          ∧ (¬(s.slots[n].state = .detected ∨ s.slots[n].state = .poweredDown) →
              t = s.setSlot n { s.slots[n] with latchClosed := true, latchHold := none }))
    ∧ (s.slots[n].latchHold.isSome = true → s.slots[n].present = true → s.slots[n].latchClosed = true →
        QueuedOnlyWaiting n s →
        ∃ t : State, exec (.latchFilteredChange n) s = .next t
          ∧ t.slots[n].latchClosed = false ∧ t.slots[n].latchHold = none ∧ t.readers[n].line = none
          ∧ (s.readers[n].line = some .host → t.readers[n].host = .aborted)
          ∧ n ∉ t.sc.queue ∧ (BudgetQuiet s → OthersKept n s t)
          ∧ match s.slots[n].state with
            | .detected | .identifying | .awaiting _ => t.slots[n].state = .detected
            | .powering | .training | .recovering =>
              (s.slots[n].pwrGood = true → t.slots[n].state = .poweringOff .normal ∧ TakenDown n s t
                ∧ t.slots[n].drawCounted = s.slots[n].drawCounted ∧ t.slots[n].offWait = some ⟨s.tb.osc, 61440000⟩)
              ∧ (s.slots[n].pwrGood = false → t.slots[n].state = .poweredDown ∧ TakenDown n s t
                ∧ PowerIsOff n .normal s t)
            | .active => t.slots[n].state = .draining .normal ∧ t.lanes[n] = { s.lanes[n] with quiet := false }
                ∧ t.slots[n].drainLimit = some ⟨s.tb.osc, s.sc.drain * 122880⟩ ∧ t.slots[n].pwrEn = s.slots[n].pwrEn
            | .draining _ => t.slots[n].state = .draining .normal ∧ n ∉ t.budget.shedList
                ∧ t.slots[n].drainLimit = s.slots[n].drainLimit
            | .poweringOff _ => t.slots[n].state = .poweringOff .normal ∧ n ∉ t.budget.shedList
                ∧ t.slots[n].offWait = s.slots[n].offWait
            | .shed => t.slots[n].state = .poweredDown ∧ n ∉ t.budget.shedList
            | .empty | .poweredDown | .faulted _ => t.slots[n].state = s.slots[n].state)

/-- POWERING goes to TRAINING when PWR_GOOD has held for 5 ms, with the lane training, its 50 ms limit and, for a card
that needs timing, the measurement; RECOVERING trains once the read has completed too; lane up makes the slot ACTIVE and
its port and the grant arbiter run: an idle port makes its choice. No other slot's records change. That either command is no
event where no hold runs or no lane trains is the model's choice (log 7). -/
def Obligations.PowerUpReachesService : Prop :=
  ∀ (n : SlotId) (s : State),
    (s.slots[n].goodHold = none → exec (.pwrGoodHoldComplete n) s = .next s)
    ∧ (s.slots[n].goodHold.isSome = true → s.slots[n].state = .powering →
        ∃ t : State, exec (.pwrGoodHoldComplete n) s = .next t
          ∧ t.slots[n] = { s.slots[n] with
              state := .training, lastChange := s.tb.cfc, goodHold := none, inrushWindow := none
              trainLimit := some ⟨s.tb.osc, 6144000⟩ }
          ∧ t.lanes[n] = { s.lanes[n] with status := .training }
          ∧ (needsTiming s n = true → t.timing[n] = { s.timing[n] with
              measuring := some ⟨0, false, 0, [], 0, 0, none⟩
              state := if s.timing[n].state = .aligned then .aligned else .measuring })
          ∧ (needsTiming s n = false → t.timing[n] = s.timing[n])
          ∧ OthersKept n s t ∧ t.readers[n] = s.readers[n] ∧ t.sc = s.sc ∧ t.routes = s.routes ∧ t.buffer = s.buffer
          ∧ t.tb = s.tb ∧ t.gates = s.gates ∧ t.alarms = s.alarms)
    ∧ (s.slots[n].goodHold.isSome = true → s.slots[n].state = .recovering →
        exec (.pwrGoodHoldComplete n) s
          = .next (if s.slots[n].readDone = true then
              (s.setSlot n { s.slots[n] with
                goodHold := none, holdDone := true, inrushWindow := none, trainLimit := some ⟨s.tb.osc, 6144000⟩ }).setLane n
                { s.lanes[n] with status := .training }
            else s.setSlot n { s.slots[n] with goodHold := none, holdDone := true }))
    ∧ (s.lanes[n].status ≠ .training → exec (.laneUp n) s = .next s)
    ∧ (s.lanes[n].status = .training → s.slots[n].state.mayTrain = true →
        ∃ t : State, exec (.laneUp n) s = .next t
          ∧ t.slots[n] = { s.slots[n] with
              state := .active, lastChange := s.tb.cfc, goodHold := none, inrushWindow := none, trainLimit := none
              drainLimit := none, offWait := none, holdDone := false, readDone := false }
          ∧ t.lanes[n] = { s.lanes[n] with status := .up }
          ∧ (s.slots[n].state = .recovering ∧ s.timing[n].state = .off ∧ needsTiming s n = true →
              t.timing[n] = { s.timing[n] with measuring := some ⟨0, false, 0, [], 0, 0, none⟩, state := .measuring })
          ∧ (¬(s.slots[n].state = .recovering ∧ s.timing[n].state = .off ∧ needsTiming s n = true) →
              t.timing[n] = s.timing[n])
          ∧ t.buffer.ports[n] = (match s.buffer.ports[n].sending, portChoice s.buffer.ports[n] with
              | none, some (k, c, p) => { p with sending := some (k, c) }
              | none, none | some _, _ => s.buffer.ports[n])
          ∧ (t.buffer.free ≤ 2 ∨ t.buffer.credits[n].t.limit ≤ t.buffer.credits[n].t.outstanding
              ∧ t.buffer.credits[n].c.limit ≤ t.buffer.credits[n].c.outstanding
              ∧ t.buffer.credits[n].s.limit ≤ t.buffer.credits[n].s.outstanding
              ∧ t.buffer.credits[n].b.limit ≤ t.buffer.credits[n].b.outstanding)
          ∧ OthersKept n s t ∧ t.readers[n] = s.readers[n] ∧ t.sc = s.sc ∧ t.routes = s.routes ∧ t.tb = s.tb
          ∧ t.gates = s.gates ∧ t.alarms = s.alarms)

/-- A power loss, an inrush window that ends without a good PWR_GOOD and a training limit that ends without lane up take
the slot down to FAULTED with their reason, its draw no longer counted; no other slot changes where the Power Budget
Unit has nothing to do. That an expiry whose window or limit does not run, and a level that PWR_GOOD has already, are no
events is the model's choice (log 7). -/
def Obligations.FailuresFaultSlot : Prop :=
  ∀ (n : SlotId) (s : State),
    (s.slots[n].pwrGood = false → exec (.pwrGoodDeassert n) s = .next s)
    ∧ (s.slots[n].pwrGood = true → QueuedOnlyWaiting n s → match s.slots[n].state with
      | .powering => exec (.pwrGoodDeassert n) s
          = .next (s.setSlot n { s.slots[n] with pwrGood := false, goodHold := none })
      | .training | .active | .draining _ | .recovering =>
        ∃ t : State, exec (.pwrGoodDeassert n) s = .next t
          ∧ t.slots[n].state = .faulted .powerLost ∧ t.slots[n].drawCounted = 0 ∧ t.slots[n].pwrGood = false
          ∧ TakenDown n s t ∧ n ∉ t.budget.shedList
          ∧ (s.slots[n].state.inTraffic = true →
              slotOutstanding t.buffer n = 0 ∧ portEmpty t.buffer.ports[n] = true)
          ∧ (BudgetQuiet s → OthersKept n s t)
      | .poweringOff _ => True
      | .empty | .detected | .identifying | .awaiting _ | .poweredDown | .shed | .faulted _ =>
        exec (.pwrGoodDeassert n) s = .next (s.setSlot n { s.slots[n] with pwrGood := false }))
    ∧ (s.slots[n].inrushWindow = none → exec (.inrushWindowExpiry n) s = .next s)
    ∧ (s.slots[n].inrushWindow.isSome = true → s.slots[n].state.mayInrush = true → QueuedOnlyWaiting n s →
        ∃ t : State, exec (.inrushWindowExpiry n) s = .next t
          ∧ t.slots[n].state = .faulted .inrushTimeout ∧ t.slots[n].drawCounted = 0 ∧ TakenDown n s t
          ∧ (BudgetQuiet s → OthersKept n s t))
    ∧ (s.slots[n].trainLimit = none → exec (.laneTrainingLimitExpiry n) s = .next s)
    ∧ (s.slots[n].trainLimit.isSome = true → s.slots[n].state.mayTrain = true → QueuedOnlyWaiting n s →
        ∃ t : State, exec (.laneTrainingLimitExpiry n) s = .next t
          ∧ t.slots[n].state = .faulted .laneTrainFail ∧ t.slots[n].drawCounted = 0 ∧ TakenDown n s t
          ∧ (BudgetQuiet s → OthersKept n s t))

/-- Draining ends at its limit, or at the quiet marker once the port is empty: the slot goes to POWERING_OFF with its
off purpose, its traffic over and its 500 ms wait started, or straight through where PWR_GOOD has fallen already. The
wait ends at the fall of PWR_GOOD or at its expiry, where its off purpose says; the expiry raises POWER_STUCK. That an expiry
whose limit or wait does not run is no event is the model's choice (log 7). -/
def Obligations.DrainAndPowerOffEnd : Prop :=
  ∀ (n : SlotId) (p : OffPurpose) (s : State),
    (s.slots[n].drainLimit = none → exec (.drainLimitExpiry n) s = .next s)
    ∧ (s.slots[n].state.isDraining = false → exec (.laneQuietMarker n) s = .next s)
    ∧ (s.slots[n].state = .draining p → portEmpty s.buffer.ports[n] = false →
        exec (.laneQuietMarker n) s = .next (s.setLane n { s.lanes[n] with quiet := true }))
    ∧ (s.slots[n].state = .draining p → s.slots[n].pwrGood = true →
        (s.slots[n].drainLimit.isSome = true →
          ∃ t : State, exec (.drainLimitExpiry n) s = .next t
            ∧ t.slots[n].state = .poweringOff p ∧ t.slots[n].drawCounted = s.slots[n].drawCounted
            ∧ t.slots[n].pwrEn = false ∧ t.slots[n].offWait = some ⟨s.tb.osc, 61440000⟩
            ∧ t.lanes[n] = ⟨.down, false, none⟩ ∧ slotOutstanding t.buffer n = 0
            ∧ portEmpty t.buffer.ports[n] = true ∧ t.timing[n].state = .off ∧ OthersKept n s t)
        ∧ (portEmpty s.buffer.ports[n] = true →
          ∃ t : State, exec (.laneQuietMarker n) s = .next t
            ∧ t.slots[n].state = .poweringOff p ∧ t.slots[n].drawCounted = s.slots[n].drawCounted
            ∧ t.slots[n].pwrEn = false ∧ t.slots[n].offWait = some ⟨s.tb.osc, 61440000⟩
            ∧ t.lanes[n] = ⟨.down, false, none⟩ ∧ slotOutstanding t.buffer n = 0
            ∧ t.timing[n].state = .off ∧ OthersKept n s t))
    ∧ (s.slots[n].state = .draining p → s.slots[n].pwrGood = false → n ∉ s.sc.queue →
        (s.slots[n].drainLimit.isSome = true →
          ∃ t : State, exec (.drainLimitExpiry n) s = .next t ∧ PowerIsOff n p s t)
        ∧ (portEmpty s.buffer.ports[n] = true →
          ∃ t : State, exec (.laneQuietMarker n) s = .next t ∧ PowerIsOff n p s t))
    ∧ (s.slots[n].offWait = none → exec (.powerOffWaitExpiry n) s = .next s)
    ∧ (s.slots[n].state = .poweringOff p → n ∉ s.sc.queue →
        (s.slots[n].offWait.isSome = true →
          ∃ t : State, exec (.powerOffWaitExpiry n) s = .next t ∧ PowerIsOff n p s t
            ∧ (BudgetQuiet s → s.routes.reports[n] = [] →
                t.alarms = (raiseEvent .powerStuck (.slot n) 0 .major s).alarms))
        ∧ (s.slots[n].pwrGood = true →
          ∃ t : State, exec (.pwrGoodDeassert n) s = .next t ∧ PowerIsOff n p s t ∧ t.slots[n].pwrGood = false))

/-! ### Slot requests and admission -/

/-- SLOT_RELEASE, SLOT_POWER_CYCLE and SLOT_CLEAR_FAULT by the slot's state: accepted with their effect, accepted with
none, or refused WRONG_STATE; a slot number outside 1 to 12 is refused BAD_FIELD. -/
def Obligations.SlotRequestsActByState : Prop :=
  ∀ (tag : Byte) (n : SlotId) (k : Nat) (s : State),
    (Ready (.slotRelease tag (.fields (slotNumber n))) s → match s.slots[n].state with
      | .active => n ∉ s.sc.queue →
        ∃ t : State, exec (.slotRelease tag (.fields (slotNumber n))) s = .next t ∧ Answered tag [5] s t
          ∧ t.slots[n].state = .draining .normal ∧ t.slots[n].drainLimit = some ⟨s.tb.osc, s.sc.drain * 122880⟩
          ∧ t.lanes[n] = { s.lanes[n] with quiet := false } ∧ (BudgetQuiet s → OthersKept n s t)
      | .powering | .training | .recovering => n ∉ s.sc.queue →
        ∃ t : State, exec (.slotRelease tag (.fields (slotNumber n))) s = .next t ∧ Answered tag [5] s t
          ∧ TakenDown n s t ∧ (BudgetQuiet s → OthersKept n s t)
          ∧ (s.slots[n].pwrGood = true → t.slots[n].state = .poweringOff .normal
              ∧ t.slots[n].drawCounted = s.slots[n].drawCounted ∧ t.slots[n].offWait = some ⟨s.tb.osc, 61440000⟩)
          ∧ (s.slots[n].pwrGood = false → PowerIsOff n .normal s t)
      | .draining _ | .poweringOff _ =>
        exec (.slotRelease tag (.fields (slotNumber n))) s = .next (accepted 5 tag [] s)
      | .empty | .detected | .identifying | .awaiting _ | .poweredDown | .shed | .faulted _ =>
        exec (.slotRelease tag (.fields (slotNumber n))) s = .next (refused 5 tag .wrongState s))
    ∧ (Ready (.slotPowerCycle tag (.fields (slotNumber n))) s →
        (s.slots[n].state = .active → n ∉ s.sc.queue →
          ∃ t : State, exec (.slotPowerCycle tag (.fields (slotNumber n))) s = .next t ∧ Answered tag [6] s t
            ∧ t.slots[n].state = .draining .cycle ∧ t.slots[n].drainLimit = some ⟨s.tb.osc, s.sc.drain * 122880⟩
            ∧ t.lanes[n] = { s.lanes[n] with quiet := false } ∧ (BudgetQuiet s → OthersKept n s t))
        ∧ (s.slots[n].state ≠ .active →
          exec (.slotPowerCycle tag (.fields (slotNumber n))) s = .next (refused 6 tag .wrongState s)))
    ∧ (Ready (.slotClearFault tag (.fields (slotNumber n))) s →
        match s.slots[n].state with
        | .faulted r =>
          (r = .cutoff ∧ s.budget.latch.isSome = true →
            exec (.slotClearFault tag (.fields (slotNumber n))) s = .next (refused 7 tag .wrongState s))
          ∧ (¬(r = .cutoff ∧ s.budget.latch.isSome = true) →
            ∃ t : State, exec (.slotClearFault tag (.fields (slotNumber n))) s = .next t ∧ Answered tag [7] s t
              ∧ t.slots[n].state
                = (if s.slots[n].latchClosed = true ∧ s.readers[n].line = none then .identifying else .detected)
              ∧ t.alarms = (clearAlarm .slotFault (.slot n) r.number s).alarms ∧ OthersKept n s t)
        | .empty | .detected | .identifying | .awaiting _ | .powering | .training | .active | .draining _
        | .poweringOff _ | .poweredDown | .shed | .recovering =>
          exec (.slotClearFault tag (.fields (slotNumber n))) s = .next (refused 7 tag .wrongState s))
    ∧ (k = 0 ∨ 12 < k →
        (Ready (.slotAdmit tag (.fields k)) s → exec (.slotAdmit tag (.fields k)) s = .next (refused 4 tag .badField s))
        ∧ (Ready (.slotRelease tag (.fields k)) s →
          exec (.slotRelease tag (.fields k)) s = .next (refused 5 tag .badField s))
        ∧ (Ready (.slotPowerCycle tag (.fields k)) s →
          exec (.slotPowerCycle tag (.fields k)) s = .next (refused 6 tag .badField s))
        ∧ (Ready (.slotClearFault tag (.fields k)) s →
          exec (.slotClearFault tag (.fields k)) s = .next (refused 7 tag .badField s)))

/-- SLOT_ADMIT by the slot's state. A slot that awaits approval is powered where the check may be made and its declared
draw fits beside the committed draw. It joins the admission queue's tail where it does not fit, or where its check is
withheld: by the latch, an episode, another slot's hold, a shed list or a queue. Then nothing else changes, but where the slot
was the restoring one: its hold ends, and the budget pass serves the queue or restores a shed slot that fits. -/
def Obligations.AdmissionByBudget : Prop :=
  ∀ (tag : Byte) (n h : SlotId) (r : List SlotId) (s : State), Ready (.slotAdmit tag (.fields (slotNumber n))) s →
    (s.slots[n].state = .awaiting .approval → n ∉ s.sc.queue →
      (s.budget.latch = none → s.budget.episode = false →
        (s.budget.restoring = some n ∨ s.budget.restoring = none ∧ s.budget.shedList = [] ∧ s.sc.queue = []) →
        committed s + declaredDraw s n ≤ s.budget.effective →
        ∃ t : State, exec (.slotAdmit tag (.fields (slotNumber n))) s = .next t ∧ Answered tag [4] s t
          ∧ t.slots[n] = { s.slots[n] with
              state := .powering, lastChange := s.tb.cfc, waived := false, pwrEn := true
              drawCounted := declaredDraw s n, inrushWindow := some ⟨s.tb.osc, s.sc.inrush * 122880⟩
              goodHold := if s.slots[n].pwrGood = true then some ⟨s.tb.osc, 614400⟩ else none }
          ∧ t.budget.restoring ≠ some n ∧ (s.budget.shedList = [] ∧ s.sc.queue = [] → OthersKept n s t))
      ∧ (s.budget.restoring ≠ some n →
        (s.budget.latch.isSome = true ∨ s.budget.episode = true ∨ s.budget.restoring.isSome = true
          ∨ s.budget.shedList ≠ [] ∨ s.sc.queue ≠ [] ∨ s.budget.effective < committed s + declaredDraw s n) →
        ∃ t : State, exec (.slotAdmit tag (.fields (slotNumber n))) s = .next t ∧ Answered tag [4] s t
          ∧ t.slots[n] = { s.slots[n] with state := .awaiting .budget, lastChange := s.tb.cfc }
          ∧ t.sc.queue = s.sc.queue ++ [n] ∧ t.budget = { s.budget with powerOn := t.budget.powerOn }
          ∧ OthersKept n s t)
      ∧ (s.budget.restoring = some n → s.budget.latch.isSome = true ∨ s.budget.episode = true →
        ∃ t : State, exec (.slotAdmit tag (.fields (slotNumber n))) s = .next t ∧ Answered tag [4] s t
          ∧ t.slots[n] = { s.slots[n] with state := .awaiting .budget, lastChange := s.tb.cfc }
          ∧ t.sc.queue = s.sc.queue ++ [n]
          ∧ t.budget = { s.budget with powerOn := t.budget.powerOn, restoring := none } ∧ OthersKept n s t)
      ∧ (s.budget.restoring = some n → s.budget.latch = none → s.budget.episode = false →
        committed s ≤ s.budget.effective → s.budget.effective < committed s + declaredDraw s n →
        ∃ t : State, exec (.slotAdmit tag (.fields (slotNumber n))) s = .next t ∧ Answered tag [4] s t
          ∧ (s.budget.shedList = [] → s.sc.queue = [] ∨ s.sc.queue = h :: r
                ∧ s.budget.effective < committed s + declaredDraw s h →
              t.slots[n] = { s.slots[n] with state := .awaiting .budget, lastChange := s.tb.cfc }
              ∧ t.sc.queue = s.sc.queue ++ [n]
              ∧ t.budget = { s.budget with powerOn := t.budget.powerOn, restoring := none } ∧ OthersKept n s t)
          ∧ (s.budget.shedList = [] → s.sc.queue = h :: r → committed s + declaredDraw s h ≤ s.budget.effective →
              t.slots[h].state = .powering ∧ t.slots[h].pwrEn = true ∧ h ∉ t.sc.queue ∧ t.budget.restoring = none
              ∧ (t.slots[n].state = .awaiting .budget ∧ n ∈ t.sc.queue ∨ t.slots[n].state = .powering ∧ t.sc.queue = []))
          ∧ (s.budget.shedList = h :: r → h ≠ n →
              t.slots[n] = { s.slots[n] with state := .awaiting .budget, lastChange := s.tb.cfc }
              ∧ t.sc.queue = s.sc.queue ++ [n]
              ∧ (s.slots[h].state = .shed ∧ committed s + declaredDraw s h ≤ s.budget.effective →
                t.budget.restoring = some h ∧ t.budget.shedList = r.filter (· ≠ h) ∧ t.slots[h].waived = true
                ∧ t.slots[h].state
                  = (if s.slots[h].latchClosed = true ∧ s.readers[h].line = none then .identifying else .detected))
              ∧ (¬(s.slots[h].state = .shed ∧ committed s + declaredDraw s h ≤ s.budget.effective) →
                t.budget = { s.budget with powerOn := t.budget.powerOn, restoring := none } ∧ OthersKept n s t))))
    ∧ (s.slots[n].state = .awaiting .budget ∨ s.slots[n].state.powered = true →
        exec (.slotAdmit tag (.fields (slotNumber n))) s = .next (accepted 4 tag [] s))
    ∧ (¬(s.slots[n].state = .awaiting .approval ∨ s.slots[n].state = .awaiting .budget
          ∨ s.slots[n].state.powered = true) →
        exec (.slotAdmit tag (.fields (slotNumber n))) s = .next (refused 4 tag .wrongState s))

/-- SLOT_POLICY_SET takes every field present, clamped to its range, and keeps the others; the gate follows the TX
inhibit at once; a change to AUTO admits a slot that awaits approval, and a change of priority brings an evaluation while an
episode runs. The order of the reply's fields and the widths of the
three part-wide ones are the model's choice (log 12). -/
def Obligations.PolicySetTakesValues : Prop :=
  ∀ (tag : Byte) (n : SlotId) (k : Nat) (f : PolicyFields) (s : State), Ready (.slotPolicySet tag (.fields f)) s →
    (f.slot = slotNumber n →
      s.budget.episode = false ∨ s.slots[n].state.staying = false ∨ staying s ≤ s.budget.effective ∧
        s.budget.effective < committed s ∧ s.budget.exceeded = false ∨ (∀ x ∈ f.priority, min 7 x = s.slots[n].priority) →
      ¬(f.policy = some .auto ∧ s.slots[n].state = .awaiting .approval) →
      ∃ t : State, exec (.slotPolicySet tag (.fields f)) s = .next t
        ∧ t.slots[n] = { s.slots[n] with
            policy := f.policy.getD s.slots[n].policy
            priority := (f.priority.map (min 7)).getD s.slots[n].priority
            priorityByHost := s.slots[n].priorityByHost || f.priority.isSome
            txInhibit := f.txInhibit.getD s.slots[n].txInhibit }
        ∧ t.sc = ⟨(f.debounce.map fun x => max 10 (min 250 (x / 10 * 10))).getD s.sc.debounce,
            (f.inrush.map fun x => max 20 (min 200 x)).getD s.sc.inrush,
            (f.drain.map fun x => max 10 (min 1000 x)).getD s.sc.drain, s.sc.queue⟩
        ∧ t.gates.slots[n].txg = (s.gates.slots[n].txg && mayTransmit t n)
        ∧ OthersKept n s t ∧ t.readers[n] = s.readers[n] ∧ t.lanes[n] = s.lanes[n] ∧ t.timing[n] = s.timing[n]
        ∧ t.budget = s.budget ∧ t.routes = s.routes ∧ t.buffer = s.buffer ∧ t.tb = s.tb ∧ t.alarms = s.alarms
        ∧ Answered tag ([3] ++ beOpt (fun p => be8 p.code) 1 f.policy ++ beOpt (fun x => be8 (min 7 x)) 1 f.priority
            ++ beOpt beFlag 1 f.txInhibit ++ beOpt (fun x => be8 (max 10 (min 250 (x / 10 * 10)))) 1 f.debounce
            ++ beOpt (fun x => be8 (max 20 (min 200 x))) 1 f.inrush
            ++ beOpt (fun x => be16 (max 10 (min 1000 x))) 2 f.drain) s t)
    ∧ (f.slot = slotNumber n → s.budget.episode = true → s.budget.latch = none → s.slots[n].state.staying = true →
      (∃ x ∈ f.priority, min 7 x ≠ s.slots[n].priority) → s.budget.powerOn.Nodup →
      ∃ t : State, exec (.slotPolicySet tag (.fields f)) s = .next t
        ∧ t.slots[n].policy = f.policy.getD s.slots[n].policy
        ∧ some t.slots[n].priority = f.priority.map (min 7) ∧ t.slots[n].priorityByHost = true
        ∧ (staying t ≤ t.budget.effective ∨ t.budget.exceeded = true))
    ∧ (f.slot = slotNumber n → f.policy = some .auto → s.slots[n].state = .awaiting .approval → BudgetQuiet s →
      committed s + declaredDraw s n ≤ s.budget.effective →
      ∃ t : State, exec (.slotPolicySet tag (.fields f)) s = .next t
        ∧ t.slots[n].state = .powering ∧ t.slots[n].pwrEn = true ∧ t.slots[n].drawCounted = declaredDraw s n)
    ∧ (f.slot = k → k = 0 ∨ 12 < k →
      exec (.slotPolicySet tag (.fields f)) s = .next (refused 3 tag .badField s))

/-- The slot states, the outputs, draws, lanes, timers and reads that belong to them, and the admission queue keep
agreeing with one another at every step. -/
def Obligations.SlotsStayCoherent : Prop :=
  ∀ s t : State, SlotsCoherent s → step s = .next t → SlotsCoherent t

/-! ### Identity reads -/

/-- The check code: a block as written decodes CLEAN, with any one of its 72 bits inverted it decodes CORRECTED to the
written data, with any two inverted it is UNCORRECTABLE; and every data has exactly one check byte. -/
def Obligations.HammingCorrectsSingleErrors : Prop :=
  (∀ b : IdBlock, WrittenWell b →
    decodeBlock b = .clean b.data
    ∧ (∀ k < 72, decodeBlock (flipBit b k) = .corrected b.data)
    ∧ ∀ k < 72, ∀ j < k, decodeBlock (flipBit (flipBit b j) k) = .uncorrectable)
  ∧ ∀ d : BitVec 64, ∃ c : Byte, WrittenWell ⟨d, c⟩ ∧ ∀ c' : Byte, WrittenWell ⟨d, c'⟩ → c' = c

/-- A block completion gathers the block of a read that goes on, asks once for a second transfer of an uncorrectable
block, and ends the read at the second one, at a failed check, or at the last block with the checks; an admission read then
reserves the addresses and its slot awaits approval, or is admitted at once, a recovery read is compared with the kept
record, and a host read only leaves its result and frees the line for an admission read that waits. A corrected block stands
in the read status, and in ID_CORRECTED at the end. That an answer without a read in flight is no event is the model's choice
(log 7), and so are the failed check's place in the last outcome (log 29) and what an idle read context shows of the read that
ended: its blocks emptied, its next block, its re-read flag and its corrected block as the read left them (log 3). -/
def Obligations.BlockCompletionAdvancesRead : Prop :=
  ∀ (n : SlotId) (p : ReadPurpose) (a : Option IdBlock) (d : BitVec 64) (k : Option Nat) (c kept : Identity)
    (e : CheckName) (o : ReadOutcome) (s : State),
    (s.readers[n].line = none → exec (.identityBlockCompletion n a) s = .next s)
    ∧ (s.readers[n].line = some p → decodeAnswer a = .uncorrectable → s.readers[n].reread = false →
        exec (.identityBlockCompletion n a) s = .next (s.setReader n { s.readers[n] with reread := true }))
    ∧ (s.readers[n].line = some p → progressOf (s.readers[n].blocks ++ [d]) = .going → Gathers a s.readers[n] d k →
        exec (.identityBlockCompletion n a) s = .next (s.setReader n { s.readers[n] with
          blocks := s.readers[n].blocks ++ [d], nextBlock := s.readers[n].nextBlock + 1, reread := false, corrected := k }))
    ∧ (s.readers[n].line = some .admission → s.slots[n].state = .identifying → n ∉ s.sc.queue →
        (decodeAnswer a = .uncorrectable → s.readers[n].reread = true →
          ∃ t : State, exec (.identityBlockCompletion n a) s = .next t
            ∧ t.slots[n].state = .faulted .idUnreadable ∧ t.readers[n].line = none
            ∧ t.readers[n].lastOutcome
              = some ⟨.idUnreadable, .uncorrectable, some s.readers[n].nextBlock, .admission, s.tb.cfc, none⟩)
        ∧ (Gathers a s.readers[n] d k → progressOf (s.readers[n].blocks ++ [d]) = .badFormat e →
          ∃ t : State, exec (.identityBlockCompletion n a) s = .next t
            ∧ t.slots[n].state = .faulted .idFormat ∧ t.readers[n].line = none
            ∧ t.readers[n].lastOutcome = some ⟨.idFormat, readStatus k, k, .admission, s.tb.cfc, some e⟩)
        ∧ (Gathers a s.readers[n] d k → progressOf (s.readers[n].blocks ++ [d]) = .valid c →
          ((reserve n c.addresses s).1 = o → o ≠ .good →
            ∃ t : State, exec (.identityBlockCompletion n a) s = .next t
              ∧ (o = .addressConflict → t.slots[n].state = .faulted .addressConflict)
              ∧ (o = .routeTableFull → t.slots[n].state = .faulted .routeTableFull)
              ∧ t.readers[n].line = none
              ∧ t.readers[n].lastOutcome = some ⟨o, readStatus k, k, .admission, s.tb.cfc, none⟩)
          ∧ ((reserve n c.addresses s).1 = .good →
            (s.slots[n].policy = .approval → s.slots[n].waived = false →
              ∃ t : State, exec (.identityBlockCompletion n a) s = .next t
                ∧ t.slots[n].state = .awaiting .approval ∧ t.slots[n].identity = some ⟨c, readStatus k, k⟩
                ∧ t.readers[n].line = none
                ∧ t.readers[n].lastOutcome = some ⟨.good, readStatus k, k, .admission, s.tb.cfc, none⟩
                ∧ t.routes = (reserve n c.addresses s).2.routes ∧ t.alarms = (correctedNoted n k s).alarms
                ∧ OthersKept n s t)
            ∧ (s.slots[n].policy = .auto ∨ s.slots[n].waived = true →
              (s.budget.latch = none → s.budget.episode = false →
                (s.budget.restoring = some n ∨ s.budget.restoring = none ∧ s.budget.shedList = [] ∧ s.sc.queue = []) →
                committed s + c.draw ≤ s.budget.effective →
                ∃ t : State, exec (.identityBlockCompletion n a) s = .next t
                  ∧ t.slots[n].state = .powering ∧ t.slots[n].pwrEn = true ∧ t.slots[n].drawCounted = c.draw
                  ∧ t.slots[n].identity = some ⟨c, readStatus k, k⟩
                  ∧ t.routes = (reserve n c.addresses s).2.routes)
              ∧ (s.budget.latch.isSome = true ∨ s.budget.episode = true
                  ∨ s.budget.restoring ≠ some n ∧ (s.budget.restoring.isSome = true ∨ s.budget.shedList ≠ []
                    ∨ s.sc.queue ≠ [] ∨ s.budget.effective < committed s + c.draw)
                  ∨ s.budget.restoring = some n ∧ s.budget.shedList = [] ∧ s.sc.queue = []
                    ∧ committed s ≤ s.budget.effective ∧ s.budget.effective < committed s + c.draw →
                ∃ t : State, exec (.identityBlockCompletion n a) s = .next t
                  ∧ t.slots[n].state = .awaiting .budget ∧ t.sc.queue = s.sc.queue ++ [n]
                  ∧ t.slots[n].identity = some ⟨c, readStatus k, k⟩ ∧ t.budget.restoring ≠ some n
                  ∧ t.budget.shedList = s.budget.shedList ∧ OthersKept n s t)))))
    ∧ (s.readers[n].line = some .recovery → s.slots[n].state = .recovering → n ∉ s.sc.queue →
        (decodeAnswer a = .uncorrectable → s.readers[n].reread = true →
          ∃ t : State, exec (.identityBlockCompletion n a) s = .next t
            ∧ t.slots[n].state = .faulted .idChanged ∧ TakenDown n s t ∧ t.slots[n].drawCounted = 0)
        ∧ (Gathers a s.readers[n] d k → progressOf (s.readers[n].blocks ++ [d]) = .badFormat e →
          ∃ t : State, exec (.identityBlockCompletion n a) s = .next t
            ∧ t.slots[n].state = .faulted .idChanged ∧ TakenDown n s t ∧ t.slots[n].drawCounted = 0)
        ∧ (cardOf s n = some kept → Gathers a s.readers[n] d k → progressOf (s.readers[n].blocks ++ [d]) = .valid c →
          (kept.serial = c.serial ∧ sameAddresses kept.addresses c.addresses = true →
            ∃ t : State, exec (.identityBlockCompletion n a) s = .next t
              ∧ t.slots[n].state = .recovering ∧ t.slots[n].readDone = true
              ∧ t.slots[n].identity = some ⟨c, readStatus k, k⟩ ∧ t.readers[n].line = none
              ∧ t.lanes[n].status = (if s.slots[n].holdDone = true then .training else s.lanes[n].status)
              ∧ OthersKept n s t)
          ∧ (¬(kept.serial = c.serial ∧ sameAddresses kept.addresses c.addresses = true) →
            ∃ t : State, exec (.identityBlockCompletion n a) s = .next t
              ∧ t.slots[n].state = .faulted .idChanged ∧ TakenDown n s t ∧ t.slots[n].drawCounted = 0)))
    ∧ (s.readers[n].line = some .host → ¬(s.slots[n].state = .detected ∧ s.slots[n].latchClosed = true) →
        (decodeAnswer a = .uncorrectable → s.readers[n].reread = true →
          exec (.identityBlockCompletion n a) s = .next (s.setReader n { s.readers[n] with
            line := none, blocks := []
            lastOutcome := some ⟨.idUnreadable, .uncorrectable, some s.readers[n].nextBlock, .host, s.tb.cfc, none⟩
            host := .ended .idUnreadable .uncorrectable (some s.readers[n].nextBlock) [] none }))
        ∧ (Gathers a s.readers[n] d k → progressOf (s.readers[n].blocks ++ [d]) = .badFormat e →
          exec (.identityBlockCompletion n a) s = .next ((correctedNoted n k s).setReader n { s.readers[n] with
            line := none, blocks := [], nextBlock := s.readers[n].nextBlock + 1, reread := false, corrected := k
            lastOutcome := some ⟨.idFormat, readStatus k, k, .host, s.tb.cfc, some e⟩
            host := .ended .idFormat (readStatus k) k (s.readers[n].blocks ++ [d]) (some e) }))
        ∧ (Gathers a s.readers[n] d k → progressOf (s.readers[n].blocks ++ [d]) = .valid c →
          exec (.identityBlockCompletion n a) s = .next ((correctedNoted n k s).setReader n { s.readers[n] with
            line := none, blocks := [], nextBlock := s.readers[n].nextBlock + 1, reread := false, corrected := k
            lastOutcome := some ⟨.good, readStatus k, k, .host, s.tb.cfc, none⟩
            host := .ended .good (readStatus k) k (s.readers[n].blocks ++ [d]) none })))
    ∧ (s.readers[n].line = some .host → s.slots[n].state = .detected → s.slots[n].latchClosed = true →
        (decodeAnswer a = .uncorrectable → s.readers[n].reread = true →
          ∃ t : State, exec (.identityBlockCompletion n a) s = .next t
            ∧ IdentifiedAfterHost n (.ended .idUnreadable .uncorrectable (some s.readers[n].nextBlock) [] none) s t)
        ∧ (Gathers a s.readers[n] d k → progressOf (s.readers[n].blocks ++ [d]) = .badFormat e →
          ∃ t : State, exec (.identityBlockCompletion n a) s = .next t
            ∧ IdentifiedAfterHost n (.ended .idFormat (readStatus k) k (s.readers[n].blocks ++ [d]) (some e)) s t)
        ∧ (Gathers a s.readers[n] d k → progressOf (s.readers[n].blocks ++ [d]) = .valid c →
          ∃ t : State, exec (.identityBlockCompletion n a) s = .next t
            ∧ IdentifiedAfterHost n (.ended .good (readStatus k) k (s.readers[n].blocks ++ [d]) none) s t))

/-- The reservation of a card's addresses is taken whole or not at all: an address that stands for another slot or for a
group is a conflict, more new addresses than free entries are too many, and otherwise every new address becomes a
learned entry of the slot and every provisioned one serves its card. -/
def Obligations.ReserveAllOrNothing : Prop :=
  ∀ (n : SlotId) (l : List Nat) (b : Nat) (s : State),
    ((∃ a ∈ l, ∃ e ∈ findEntry s.routes.table a, e.target ≠ .slot n) → reserve n l s = (.addressConflict, s))
    ∧ ((∀ a ∈ l, ∀ e ∈ findEntry s.routes.table a, e.target = .slot n) →
        (96 < s.routes.table.length + (l.filter fun a => (findEntry s.routes.table a).isNone).length →
          reserve n l s = (.routeTableFull, s))
        ∧ (s.routes.table.length + (l.filter fun a => (findEntry s.routes.table a).isNone).length ≤ 96 →
          (reserve n l s).1 = .good
          ∧ (reserve n l s).2 = { s with routes := { s.routes with table := (reserve n l s).2.routes.table } }
          ∧ (b ∉ l → findEntry (reserve n l s).2.routes.table b = findEntry s.routes.table b)
          ∧ (b ∈ l → findEntry (reserve n l s).2.routes.table b
              = some (match findEntry s.routes.table b with
                | none => ⟨b, .slot n, .learned, ⟨true, true, true, true⟩, false⟩
                | some e => { e with serving := e.origin == .provisioned }))))

/-- IDENTITY_READ with mode START begins a host read where a card is present and its service line is free, and is
refused otherwise. -/
def Obligations.HostReadStartsOnFreeLine : Prop :=
  ∀ (tag : Byte) (n : SlotId) (k : Nat) (s : State),
    (Ready (.identityReadStart tag (.fields (slotNumber n))) s →
      exec (.identityReadStart tag (.fields (slotNumber n))) s
        = .next (if s.slots[n].present = true then
            if s.readers[n].line = none then
              (accepted 9 tag [] s).setReader n { s.readers[n] with
                line := some .host, nextBlock := 1, reread := false, blocks := [], corrected := none, host := .inFlight }
            else refused 9 tag .busy s
          else refused 9 tag .wrongState s))
    ∧ (Ready (.identityReadStart tag (.fields k)) s → k = 0 ∨ 12 < k →
      exec (.identityReadStart tag (.fields k)) s = .next (refused 9 tag .badField s))

/-! ### Power budget and cutoff -/

/-- BUDGET_SET takes each capacity present, at most 8,000, and the effective capacity is worked out from the capacities
and the active inputs at once. -/
def Obligations.BudgetSetTakesCapacities : Prop :=
  ∀ (tag : Byte) (f : BudgetFields) (s : State), Ready (.budgetSet tag (.fields f)) s →
    ∃ t : State, exec (.budgetSet tag (.fields f)) s = .next t
      ∧ t.budget.mains = (f.mains.map (min 8000)).getD s.budget.mains
      ∧ t.budget.battery = (f.battery.map (min 8000)).getD s.budget.battery
      ∧ t.budget.thermal = (f.thermal.map (min 8000)).getD s.budget.thermal
      ∧ t.budget.effective = min (if actionActive s .mainsFail = true then min t.budget.mains t.budget.battery
          else t.budget.mains) (if actionActive s .thermal = true then t.budget.thermal else t.budget.mains)
      ∧ t.budget.limitBattery = actionActive s .mainsFail ∧ t.budget.limitThermal = actionActive s .thermal
      ∧ t.budget.latch = s.budget.latch ∧ t.alarms.inputs = s.alarms.inputs
      ∧ Answered tag ([10] ++ be16 t.budget.mains ++ be16 t.budget.battery ++ be16 t.budget.thermal
          ++ be16 t.budget.effective) s t
      ∧ (BudgetQuiet s → committed s ≤ t.budget.effective →
          t.slots = s.slots ∧ t.readers = s.readers ∧ t.lanes = s.lanes ∧ t.timing = s.timing ∧ t.sc = s.sc
          ∧ t.buffer = s.buffer ∧ t.routes = s.routes ∧ t.tb = s.tb ∧ t.gates = s.gates ∧ t.alarms = s.alarms)

/-- CUTOFF is always ACCEPTED. With the latch CLEAR it sets the latch with the cause HOST and the present frame: every
slot in a powered state or in SHED goes to FAULTED(CUTOFF) and the others keep theirs, the shed list, the power-on list
and the restoring slot are emptied, a running episode ends, CUTOFF_ACTIVE is raised, and the admission queue is kept.
With the latch SET nothing but the reply changes. An input that becomes active with action CUTOFF finds a SET latch as
it is. -/
def Obligations.CutoffSetsLatch : Prop :=
  ∀ (tag : Byte) (i : InputId) (s : State),
    (Ready (.cutoff tag (.fields ())) s → s.budget.latch.isSome = true →
      exec (.cutoff tag (.fields ())) s = .next (accepted 12 tag [] s))
    ∧ (Ready (.cutoff tag (.fields ())) s → s.budget.latch = none →
      ∃ t : State, exec (.cutoff tag (.fields ())) s = .next t ∧ Answered tag [12] s t
        ∧ t.budget.latch = some ⟨.host, s.tb.cfc⟩
        ∧ (∀ n : SlotId,
            (s.slots[n].state.cutOff = true → t.slots[n].state = .faulted .cutoff ∧ t.slots[n].drawCounted = 0
              ∧ TakenDown n s t)
            ∧ (s.slots[n].state.cutOff = false → t.slots[n] = s.slots[n]))
        ∧ t.budget.shedList = [] ∧ t.budget.restoring = none ∧ t.budget.episode = false
        ∧ ((∀ n ∈ s.budget.powerOn, s.slots[n].state.onPowerList = true) → t.budget.powerOn = [])
        ∧ (PowerAsTabled s → committed t = 0 ∧ staying t = 0)
        ∧ (s.alarms.table.length < 48 ∨ (∃ r ∈ s.alarms.table, r.active = false ∨ r.severity ≠ .critical) →
            ∃ r ∈ t.alarms.table, r.code = .cutoffActive ∧ r.source = .part ∧ r.active = true ∧ r.severity = .critical)
        ∧ t.sc = s.sc ∧ t.budget.effective = s.budget.effective
        ∧ (∀ n : SlotId, t.gates.slots[n].txg = false))
    ∧ (∀ l ∈ s.budget.latch, ∃ t : State, exec (.alarmInputFilteredChange i) s = .next t ∧ t.budget.latch = some l)

/-- CUTOFF_RELEASE by the latch and the inputs: refused WRONG_STATE while an input with action CUTOFF is active, else
the latch is cleared and every FAULTED(CUTOFF) slot goes to DETECTED and on to IDENTIFYING where it can; with the latch
CLEAR it is ACCEPTED without effect. Of the two, that the test of the inputs stands only while the latch is SET, so that with
the latch CLEAR the request is ACCEPTED also while such an input is active, is the model's choice (log 25). -/
def Obligations.CutoffReleaseByLatchAndInputs : Prop :=
  ∀ (tag : Byte) (s : State), Ready (.cutoffRelease tag (.fields ())) s →
    (s.budget.latch.isSome = true → actionActive s .cutoff = true →
      exec (.cutoffRelease tag (.fields ())) s = .next (refused 13 tag .wrongState s))
    ∧ (s.budget.latch = none → exec (.cutoffRelease tag (.fields ())) s = .next (accepted 13 tag [] s))
    ∧ (s.budget.latch.isSome = true → actionActive s .cutoff = false → QueueWaits s →
      ∃ t : State, exec (.cutoffRelease tag (.fields ())) s = .next t ∧ Answered tag [13] s t ∧ t.budget.latch = none
        ∧ ∀ n : SlotId, s.slots[n].state = .faulted .cutoff → t.slots[n].state
          = (if s.slots[n].latchClosed = true ∧ s.readers[n].line = none then .identifying else .detected))

/-- Outside an episode and outside a cutoff no step lets the committed draw exceed the effective capacity. -/
def Obligations.DrawStaysWithinCapacity : Prop :=
  ∀ s t : State, DrawWithinCapacity s → step s = .next t → DrawWithinCapacity t

/-- The shed order. The candidates are the slots with a shed priority of 1 to 7 that are on the power-on list and coming up,
newest first, then the ACTIVE ones by falling priority and falling number. The part taken is the shortest leading part whose
draws come to the excess, or all of them where they do not. A shed order puts its slot on top of the shed list and drains an
ACTIVE slot and takes down one that comes up, with the purpose SHED. An evaluation orders every slot of the part off, and
the staying draw is then within the capacity. An operation after which the committed draw exceeds the capacity starts the
episode with its BUDGET_SHEDDING record, and its first evaluation. The budget pass that ends it, or that any other trigger
brings, restores the shed slot on top of the shed list where it fits, or serves the admission queue from its head up to the
first slot that does not fit. -/
def Obligations.ShortestLeadingPartIsShed : Prop :=
  ∀ (s : State) (f : State → State) (need : Nat) (l q : List SlotId) (n : SlotId) (r : AlarmRec),
    (leadingPart s need l).1 <+: l
    ∧ ((leadingPart s need l).2 = true →
        need ≤ ((leadingPart s need l).1.map fun m => s.slots[m].drawCounted).sum
        ∧ (q <+: l → need ≤ (q.map fun m => s.slots[m].drawCounted).sum → (leadingPart s need l).1.length ≤ q.length))
    ∧ ((leadingPart s need l).2 = false →
        (leadingPart s need l).1 = l ∧ (l.map fun m => s.slots[m].drawCounted).sum < need)
    ∧ (n ∈ candidateOrder s ↔ 1 ≤ s.slots[n].priority ∧ s.slots[n].priority ≤ 7
        ∧ (s.slots[n].state = .active ∨ n ∈ s.budget.powerOn ∧ s.slots[n].state.onPowerList = true))
    ∧ (candidateOrder s).filter (fun m => s.slots[m].state.onPowerList)
        = (s.budget.powerOn.filter fun m => s.slots[m].state.onPowerList && sheddable s m).reverse
    ∧ (candidateOrder s).Pairwise (fun a b => s.slots[a].state = .active →
        s.slots[b].state = .active
        ∧ (s.slots[b].priority < s.slots[a].priority ∨ s.slots[b].priority = s.slots[a].priority ∧ b < a))
    ∧ (s.budget.powerOn.Nodup → s.budget.effective < staying s →
        (leadingPart s (staying s - s.budget.effective) (candidateOrder s)).2 = true →
        staying (evaluate s) ≤ s.budget.effective
        ∧ (QueueWaits s → ∀ m ∈ (leadingPart s (staying s - s.budget.effective) (candidateOrder s)).1,
            (evaluate s).slots[m].state.staying = false))
    ∧ (l.Nodup → (∀ m ∈ l, s.slots[m].present = true
          ∧ (s.slots[m].state = .active ∨ s.slots[m].state.onPowerList = true)) →
        (eachSlot shedOrder l s).budget.shedList = l.reverse ++ s.budget.shedList
        ∧ ∀ m ∈ l,
          (s.slots[m].state = .active → (eachSlot shedOrder l s).slots[m].state = .draining .shed
            ∧ (eachSlot shedOrder l s).slots[m].drainLimit = some ⟨s.tb.osc, 1228800⟩)
          ∧ (s.slots[m].state ≠ .active → s.slots[m].pwrGood = true →
            (eachSlot shedOrder l s).slots[m].state = .poweringOff .shed
            ∧ (eachSlot shedOrder l s).slots[m].pwrEn = false
            ∧ (eachSlot shedOrder l s).slots[m].drawCounted = s.slots[m].drawCounted
            ∧ (eachSlot shedOrder l s).slots[m].offWait = some ⟨s.tb.osc, 61440000⟩)
          ∧ (s.slots[m].state ≠ .active → s.slots[m].pwrGood = false →
            (eachSlot shedOrder l s).slots[m].state = .shed ∧ (eachSlot shedOrder l s).slots[m].pwrEn = false
            ∧ (eachSlot shedOrder l s).slots[m].drawCounted = 0))
    ∧ (s.budget.powerOn.Nodup → QueueWaits s → s.budget.effective < staying s →
        (leadingPart s (staying s - s.budget.effective) (candidateOrder s)).1 = l →
        (∀ m ∈ l, s.slots[m].present = true) →
        ∀ m ∈ l, (m ∈ (evaluate s).budget.shedList
            ∧ ((evaluate s).slots[m].state = .draining .shed ∨ (evaluate s).slots[m].state = .poweringOff .shed
              ∨ (evaluate s).slots[m].state = .shed))
          ∨ (evaluate s).budget.restoring = some m)
    ∧ ((f s).budget.latch = none → (f s).budget.episode = false → drawView (f s) ≠ drawView s →
        (f s).budget.effective < committed (f s) → withBudget f s = evaluate (startEpisode (f s)))
    ∧ (startEpisode s).budget = { s.budget with episode := true, exceeded := false }
    ∧ (startEpisode s).slots = s.slots
    ∧ (findAlarm s .budgetShedding .part 0 = none → s.alarms.table.length < 48 →
        (startEpisode s).alarms.table
          = s.alarms.table ++ [⟨.budgetShedding, .part, 0, .major, true, false, 1, s.tb.cfc, s.tb.cfc⟩])
    ∧ (findAlarm s .budgetShedding .part 0 = some r →
        findAlarm (startEpisode s) .budgetShedding .part 0 = some { r with
          raiseCount := min 255 (r.raiseCount + 1), active := true, acknowledged := false, severity := .major
          lastChange := s.tb.cfc })
    ∧ (s.budget.latch.isSome = true ∨ s.budget.episode = true ∨ s.budget.restoring.isSome = true → budgetPass s = s)
    ∧ (s.budget.latch = none → s.budget.episode = false → s.budget.restoring = none →
        (s.budget.shedList = n :: q →
          (s.slots[n].state = .shed ∧ committed s + declaredDraw s n ≤ s.budget.effective →
            (budgetPass s).budget.shedList = q.filter (· ≠ n) ∧ (budgetPass s).budget.restoring = some n
            ∧ (budgetPass s).slots[n].waived = true ∧ (budgetPass s).slots[n].drawCounted = s.slots[n].drawCounted
            ∧ (budgetPass s).slots[n].state
              = (if s.slots[n].latchClosed = true ∧ s.readers[n].line = none then .identifying else .detected)
            ∧ OthersKept n s (budgetPass s) ∧ (budgetPass s).sc = s.sc)
          ∧ (¬(s.slots[n].state = .shed ∧ committed s + declaredDraw s n ≤ s.budget.effective) → budgetPass s = s))
        ∧ (s.budget.shedList = [] → s.sc.queue = [] → budgetPass s = s)
        ∧ (s.budget.shedList = [] → s.sc.queue = n :: q → s.sc.queue.Nodup →
          (s.budget.effective < committed s + declaredDraw s n → budgetPass s = s)
          ∧ (committed s + declaredDraw s n ≤ s.budget.effective →
            (budgetPass s).slots[n].state = .powering ∧ (budgetPass s).slots[n].pwrEn = true
            ∧ (budgetPass s).slots[n].drawCounted = declaredDraw s n ∧ (budgetPass s).sc.queue <:+ q
            ∧ ∀ m ∈ (budgetPass s).sc.queue.head?,
                s.budget.effective < committed (budgetPass s) + declaredDraw (budgetPass s) m)))

/-! ### Routes and operator domains -/

/-- ROUTE_SET and ROUTE_CLEAR by what stands at the address: a refusal that changes no entry, or exactly the entry of
the rule installed, changed or removed, and every other address as before. A field out of range, or a byte that names no
kind, is refused BAD_FIELD. -/
def Obligations.RouteRequestsActByEntry : Prop :=
  ∀ (tag : Byte) (f : RouteFields) (target : Target) (cls : PerClass Bool) (e : Entry) (a b : Nat) (s : State),
    (Ready (.routeSet tag .badByte) s → exec (.routeSet tag .badByte) s = .next (refused 14 tag .badField s))
    ∧ (Ready (.routeSet tag (.fields f)) s → f.address = 0 ∨ 254 < f.address ∨ targetOf f.kind f.target = none →
      exec (.routeSet tag (.fields f)) s = .next (refused 14 tag .badField s))
    ∧ (Ready (.routeSet tag (.fields f)) s → 1 ≤ f.address → f.address ≤ 254 → targetOf f.kind f.target = some target →
      f.classes.getD ⟨true, true, true, true⟩ = cls →
      (findEntry s.routes.table f.address = none →
        exec (.routeSet tag (.fields f)) s = .next (if 96 ≤ s.routes.table.length then refused 14 tag .tableFull s
          else accepted 14 tag (entryBytes s ⟨f.address, target, .provisioned, cls, false⟩)
            (s.setEntries (putEntry ⟨f.address, target, .provisioned, cls, false⟩ s.routes.table))))
      ∧ (findEntry s.routes.table f.address = some e →
        exec (.routeSet tag (.fields f)) s = .next (
          if e.origin = .provisioned ∧ e.serving = false then
            accepted 14 tag (entryBytes s ⟨f.address, target, .provisioned, cls, false⟩)
              (s.setEntries (putEntry ⟨f.address, target, .provisioned, cls, false⟩ s.routes.table))
          else if e.target = target then
            accepted 14 tag (entryBytes s ⟨f.address, target, .provisioned, cls, true⟩)
              (s.setEntries (putEntry ⟨f.address, target, .provisioned, cls, true⟩ s.routes.table))
          else refused 14 tag .conflict s)))
    ∧ (Ready (.routeClear tag (.fields a)) s → a = 0 ∨ 254 < a →
      exec (.routeClear tag (.fields a)) s = .next (refused 15 tag .badField s))
    ∧ (Ready (.routeClear tag (.fields a)) s → 1 ≤ a → a ≤ 254 →
      (findEntry s.routes.table a = none →
        exec (.routeClear tag (.fields a)) s = .next (refused 15 tag .notFound s))
      ∧ (findEntry s.routes.table a = some e →
        exec (.routeClear tag (.fields a)) s = .next (
          if e.origin = .learned then refused 15 tag .wrongState s
          else if e.serving = true then
            accepted 15 tag [] (s.setEntries (putEntry ⟨e.address, e.target, .learned, ⟨true, true, true, true⟩, false⟩
              s.routes.table))
          else accepted 15 tag [] (s.setEntries (dropEntry s.routes.table a)))))
    ∧ findEntry (putEntry e s.routes.table) b = (if b = e.address then some e else findEntry s.routes.table b)
    ∧ findEntry (dropEntry s.routes.table a) b = (if b = a then none else findEntry s.routes.table b)

/-- The forwarding table keeps its addresses distinct and in order, and its 96 places, at every step. -/
def Obligations.EntriesStayDistinct : Prop :=
  ∀ s t : State, EntriesDistinct s → step s = .next t → EntriesDistinct t

/-- GROUP_SET replaces the members of one group. DOMAIN_SET, while the lock is UNLOCKED, takes every assignment and
every pair in one operation and keeps the other slots' domains and the other pairs. A field that they cannot take is refused
BAD_FIELD and changes nothing; that this is so also while the lock is LOCKED is the model's choice of order (log 20), and the
form of the member set in the reply is (log 12). -/
def Obligations.GroupAndDomainSetReplace : Prop :=
  ∀ (tag : Byte) (g : GroupId) (gf : GroupFields) (df : DomainFields) (n : SlotId) (d x y : Nat) (j : Bool) (s : State),
    (Ready (.groupSet tag (.fields gf)) s → gf.group = g.val + 1 → (∀ k ∈ gf.members, 1 ≤ k ∧ k ≤ 12) →
      exec (.groupSet tag (.fields gf)) s = .next (accepted 17 tag
        (beList (fun m => be8 (slotNumber m)) (allSlots.filter fun m => slotNumber m ∈ gf.members))
        { s with routes := { s.routes with
          groups := s.routes.groups.set g (allSlots.filter fun m => slotNumber m ∈ gf.members) } }))
    ∧ (Ready (.groupSet tag (.fields gf)) s → gf.group = 0 ∨ 16 < gf.group ∨ (∃ k ∈ gf.members, k = 0 ∨ 12 < k) →
      exec (.groupSet tag (.fields gf)) s = .next (refused 17 tag .badField s))
    ∧ (Ready (.domainSet tag (.fields df)) s → domainFieldsGood df = false →
      exec (.domainSet tag (.fields df)) s = .next (refused 18 tag .badField s))
    ∧ (Ready (.domainSet tag (.fields df)) s → domainFieldsGood df = true → s.routes.locked = false →
      ∃ t : State, exec (.domainSet tag (.fields df)) s = .next t
        ∧ ((slotNumber n, d) ∈ df.assignments → t.routes.domains[n] = d)
        ∧ (slotNumber n ∉ df.assignments.map (·.1) → t.routes.domains[n] = s.routes.domains[n])
        ∧ ((x, y, j) ∈ df.pairs → joined t.routes x y = j ∧ joined t.routes y x = j)
        ∧ ((∀ q ∈ df.pairs, ¬(q.1 = x ∧ q.2.1 = y) ∧ ¬(q.1 = y ∧ q.2.1 = x)) → joined t.routes x y = joined s.routes x y)
        ∧ t = accepted 18 tag (domainBytes t.routes) { s with routes := { s.routes with
            domains := t.routes.domains, join12 := t.routes.join12, join13 := t.routes.join13
            join23 := t.routes.join23 } })

/-- The domain lock. DOMAIN_LOCK is always ACCEPTED and leaves the lock LOCKED, whatever it was; while it is LOCKED a
DOMAIN_SET whose fields are in range is refused with LOCKED and no DOMAIN_SET changes the map or the matrix; a full
reset unlocks, and a RESTART keeps the lock, the map and the matrix. (Of a DOMAIN_SET with a field out of range only the
second is said here: which of the two refusals it gets is an inference, log 20.) -/
def Obligations.DomainLockFreezesDomains : Prop :=
  ∀ (tag : Byte) (f : DomainFields) (cause : ResetCause) (strap : LineRate) (s : State),
    (Ready (.domainLock tag (.fields ())) s → s.routes.locked = false →
      exec (.domainLock tag (.fields ())) s
        = .next (accepted 19 tag [] { s with routes := { s.routes with locked := true } }))
    ∧ (Ready (.domainLock tag (.fields ())) s → s.routes.locked = true →
      exec (.domainLock tag (.fields ())) s = .next (accepted 19 tag [] s))
    ∧ (Ready (.domainSet tag (.fields f)) s → s.routes.locked = true → domainFieldsGood f = true →
      exec (.domainSet tag (.fields f)) s = .next (refused 18 tag .locked s))
    ∧ (s.routes.locked = true → ∃ t : State, exec (.domainSet tag (.fields f)) s = .next t ∧ t.routes = s.routes)
    ∧ (∃ t : State, exec (.fullReset cause strap) s = .next t ∧ t.routes.locked = false)
    ∧ (∃ t : State, exec .restartTakeEffect s = .next t ∧ t.routes.locked = s.routes.locked
        ∧ t.routes.domains = s.routes.domains ∧ t.routes.join12 = s.routes.join12 ∧ t.routes.join13 = s.routes.join13
        ∧ t.routes.join23 = s.routes.join23)

/-- No packet is ever stored for a slot of an operator that the matrix does not join to its sender's: every copy of a
packet that a lane hands in goes to another slot, in service, and of the same domain, of a joined one, or with one of
the two in domain 0. -/
def Obligations.NoCopyCrossesDomains : Prop :=
  ∀ (n : SlotId) (rest : List Byte) (trailer : BitVec 32) (s : State), (∀ d ∈ s.buffer.stored, d.id < s.buffer.nextId) →
    ∃ t : State, exec (.packetTrailer n rest trailer) s = .next t
      ∧ ∀ d ∈ t.buffer.stored, d.id = s.buffer.nextId → ∀ m ∈ d.owed,
          m ≠ n ∧ s.slots[m].state = .active
          ∧ (s.routes.domains[n] = s.routes.domains[m] ∨ s.routes.domains[n] = 0 ∨ s.routes.domains[m] = 0
            ∨ joined s.routes s.routes.domains[n] s.routes.domains[m] = true)

/-! ### Packets and credit -/

/-- QUEUE_SET takes every limit and quantum present, clamped, at the named slot or at all twelve, keeps the others, and
answers with the values of the named slot or of slot 1. -/
def Obligations.QueueSetTakesLimits : Prop :=
  ∀ (tag : Byte) (f : QueueFields) (n m : SlotId) (s : State), Ready (.queueSet tag (.fields f)) s →
    (12 < f.slot → exec (.queueSet tag (.fields f)) s = .next (refused 20 tag .badField s))
    ∧ (f.slot = 0 ∨ f.slot = slotNumber n →
      ∃ t : State, exec (.queueSet tag (.fields f)) s = .next t
        ∧ (f.slot = 0 ∨ m = n →
            t.buffer.credits[m].t.limit = (f.credit.t.map (min 64)).getD s.buffer.credits[m].t.limit
            ∧ t.buffer.credits[m].c.limit = (f.credit.c.map (min 64)).getD s.buffer.credits[m].c.limit
            ∧ t.buffer.credits[m].s.limit = (f.credit.s.map (min 64)).getD s.buffer.credits[m].s.limit
            ∧ t.buffer.credits[m].b.limit = (f.credit.b.map (min 64)).getD s.buffer.credits[m].b.limit
            ∧ t.buffer.ports[m] = { s.buffer.ports[m] with
                limits := ⟨(f.queue.t.map fun x => max 1 (min 256 x)).getD s.buffer.ports[m].limits.t,
                  (f.queue.c.map fun x => max 1 (min 256 x)).getD s.buffer.ports[m].limits.c,
                  (f.queue.s.map fun x => max 1 (min 256 x)).getD s.buffer.ports[m].limits.s,
                  (f.queue.b.map fun x => max 1 (min 256 x)).getD s.buffer.ports[m].limits.b⟩
                sQuantum := (f.sQuantum.map fun x => max 1 (min 24 x)).getD s.buffer.ports[m].sQuantum
                bQuantum := (f.bQuantum.map fun x => max 1 (min 24 x)).getD s.buffer.ports[m].bQuantum })
        ∧ (f.slot ≠ 0 → m ≠ n → t.buffer.ports[m] = s.buffer.ports[m]
            ∧ t.buffer.credits[m].t.limit = s.buffer.credits[m].t.limit
            ∧ t.buffer.credits[m].c.limit = s.buffer.credits[m].c.limit
            ∧ t.buffer.credits[m].s.limit = s.buffer.credits[m].s.limit
            ∧ t.buffer.credits[m].b.limit = s.buffer.credits[m].b.limit)
        ∧ Answered tag ([20] ++ queueSetReply t (if f.slot = 0 then 0 else n)) s t
        ∧ t.slots = s.slots ∧ t.buffer.stored = s.buffer.stored ∧ t.buffer.counters = s.buffer.counters)

/-- A run of the grant arbiter moves free blocks into credit and nothing else: it stops with 2 blocks in reserve or with
nothing left to grant, it grants to ACTIVE slots only, and never past a limit. -/
def Obligations.ArbiterKeepsReserve : Prop :=
  ∀ (n : SlotId) (k : TrafficClass) (s : State),
    runArbiter s = { s with buffer := { s.buffer with
        free := (runArbiter s).buffer.free, credits := (runArbiter s).buffer.credits
        lastServed := (runArbiter s).buffer.lastServed } }
    ∧ (runArbiter s).buffer.free + outstandingBlocks (runArbiter s).buffer = s.buffer.free + outstandingBlocks s.buffer
    ∧ (s.buffer.free ≤ 2 → runArbiter s = s)
    ∧ (2 < s.buffer.free → 2 ≤ (runArbiter s).buffer.free)
    ∧ ((runArbiter s).buffer.free ≤ 2 ∨ (s.slots[n].state = .active →
        (perClass s.buffer.credits[n] k).limit ≤ (perClass (runArbiter s).buffer.credits[n] k).outstanding))
    ∧ (s.slots[n].state ≠ .active → (runArbiter s).buffer.credits[n] = s.buffer.credits[n])
    ∧ (perClass (runArbiter s).buffer.credits[n] k).limit = (perClass s.buffer.credits[n] k).limit
    ∧ (perClass (runArbiter s).buffer.credits[n] k).outstanding
        ≤ max (perClass s.buffer.credits[n] k).limit (perClass s.buffer.credits[n] k).outstanding
    ∧ (perClass (runArbiter s).buffer.credits[n] k).outstanding - (perClass s.buffer.credits[n] k).outstanding
        = (perClass (runArbiter s).buffer.credits[n] k).unsent - (perClass s.buffer.credits[n] k).unsent

/-- Free, stored and outstanding blocks always add up to 512, stored packets keep names of their own, and a packet in
reception stays within its sender's credit, at every step. -/
def Obligations.PoolStaysBalanced : Prop :=
  ∀ s t : State, PoolBalanced s → step s = .next t → PoolBalanced t

/-- A packet's reception, from its first block to the check that decides it: its counters, the return of its blocks to the free
pool and a run of the grant arbiter, a report taken with its CARD_REPORT raised or cleared, and where it is stored the copies
that the lookup and the queue limits allow; copies that the domains forbid are counted, and raise DOMAIN_VIOLATION once. A
packet over its credit returns nothing. The next state is given whole, so whatever is not named has kept its value. That a
first block inside a reception, and a trailer or a 25th block without one, are no events is the model's choice (log 7), and so
is that the blocks between come with the trailer (log 30), and that the ports make their choices before the arbiter runs
(log 37). That 25 blocks have come at an overlength is an inference (log
19). -/
def Obligations.PacketReceptionEnds : Prop :=
  ∀ (n m : SlotId) (k : TrafficClass) (block rest : List Byte) (trailer : BitVec 32) (q : Reception)
    (dests ok : List SlotId) (x : Nat) (c : Nat) (v : Severity) (d : Discard) (s : State),
    (s.lanes[n].status = .up ∧ s.lanes[n].reception = none →
      exec (.packetReceptionStart n block) s = .next (s.setLane n { s.lanes[n] with
        reception := some ⟨block, (perClass s.buffer.credits[n] (packetClass block)).outstanding⟩ }))
    ∧ (¬(s.lanes[n].status = .up ∧ s.lanes[n].reception = none) → exec (.packetReceptionStart n block) s = .next s)
    ∧ (s.lanes[n].reception = none →
      exec (.packetTrailer n rest trailer) s = .next s ∧ exec (.packetOverlength n) s = .next s)
    ∧ returnBlocks n k x s = { s with buffer := { s.buffer with
        free := s.buffer.free + min x (perClass s.buffer.credits[n] k).outstanding
        credits := s.buffer.credits.set n (setClass s.buffer.credits[n] k { perClass s.buffer.credits[n] k with
          outstanding := (perClass s.buffer.credits[n] k).outstanding - x }) } }
    ∧ (returnBlocks n k x s).buffer.free + outstandingBlocks (returnBlocks n k x s).buffer
        = s.buffer.free + outstandingBlocks s.buffer
    ∧ (s.lanes[n].reception = some q → packetClass q.block = k →
      exec (.packetOverlength n) s
        = .next (runArbiter (returnBlocks n k (min q.credit 25) (discardPacket n .badPacket (receptionOver n s)))))
    ∧ (s.lanes[n].reception = some q → packetClass q.block = k →
        framingGood (q.block ++ rest) ((q.block ++ rest).length / 64) trailer = false →
      exec (.packetTrailer n rest trailer) s
        = .next (runArbiter (returnBlocks n k (min q.credit ((q.block ++ rest).length / 64))
            (discardPacket n .badPacket (receptionOver n s)))))
    ∧ (s.lanes[n].reception = some q → packetClass q.block = k →
        framingGood (q.block ++ rest) ((q.block ++ rest).length / 64) trailer = true →
      (q.credit < packetLength q.block →
        exec (.packetTrailer n rest trailer) s
          = .next (raiseEvent .creditViolation (.slot n) 0 .minor (discardPacket n .creditOverrun (receptionOver n s))))
      ∧ (packetLength q.block ≤ q.credit →
        (lookup s n (byteAt q.block 0) k (packetLength q.block) q.block = .refused d x → d ≠ .forbidden →
          exec (.packetTrailer n rest trailer) s
            = .next (runArbiter (returnBlocks n k (packetLength q.block) (discardPacket n d (receptionOver n s)))))
        ∧ (lookup s n (byteAt q.block 0) k (packetLength q.block) q.block = .refused .forbidden x →
          exec (.packetTrailer n rest trailer) s
            = .next (runArbiter (returnBlocks n k (packetLength q.block)
                (countDiscardedPacket n (forbiddenNoted n x (receptionOver n s))))))
        ∧ (lookup s n (byteAt q.block 0) k (packetLength q.block) q.block = .taken (.raise c v) →
          exec (.packetTrailer n rest trailer) s
            = .next (runArbiter (raiseAlarm .cardReport (.slot n) c v
                ((returnBlocks n k 1 (countAccepted n (receptionOver n s))).setReports n
                  (putReport c v s.routes.reports[n])))))
        ∧ (lookup s n (byteAt q.block 0) k (packetLength q.block) q.block = .taken (.clear c) →
          exec (.packetTrailer n rest trailer) s
            = .next (runArbiter (clearAlarm .cardReport (.slot n) c
                ((returnBlocks n k 1 (countAccepted n (receptionOver n s))).setReports n
                  (s.routes.reports[n].filter fun y => y.1 ≠ c)))))
        ∧ (lookup s n (byteAt q.block 0) k (packetLength q.block) q.block = .copies dests x →
            dests.filter (queueAccepts s k (packetLength q.block)) = ok →
          (ok = [] → exec (.packetTrailer n rest trailer) s
            = .next (runArbiter (returnBlocks n k (packetLength q.block) (countDiscardedPacket n
                (countDiscards .queueLimit dests.length (forbiddenNoted n x (receptionOver n s)))))))
          ∧ (ok ≠ [] → ∃ t : State, exec (.packetTrailer n rest trailer) s = .next t
            ∧ t = runArbiter (storePacket k (packetLength q.block) (some n) ok (q.block ++ rest ++ be32 trailer.toNat)
                (spendCredit n k (packetLength q.block) (countAccepted n
                  (countDiscards .queueLimit (dests.length - ok.length) (forbiddenNoted n x (receptionOver n s))))))
            ∧ t.buffer.stored = s.buffer.stored ++ [⟨s.buffer.nextId, packetLength q.block, k, some n, ok,
                q.block ++ rest ++ be32 trailer.toNat⟩]
            ∧ t.buffer.nextId = s.buffer.nextId + 1
            ∧ t.buffer.counters = (countAccepted n (countDiscards .queueLimit (dests.length - ok.length)
                (forbiddenNoted n x s))).buffer.counters
            ∧ (q.credit ≤ (perClass s.buffer.credits[n] k).outstanding →
                t.buffer.free + outstandingBlocks t.buffer + packetLength q.block
                  = s.buffer.free + outstandingBlocks s.buffer)
            ∧ runArbiter t = t
            ∧ (m ∈ ok → ⟨s.buffer.nextId, packetLength q.block⟩ ∈ portCopies t.buffer.ports[m])
            ∧ (m ∉ ok → t.buffer.ports[m] = s.buffer.ports[m])
            ∧ t = { receptionOver n s with
                buffer := t.buffer
                alarms := (forbiddenNoted n x s).alarms
                mgmt := (forbiddenNoted n x s).mgmt
                creditMessages := t.creditMessages }))))

/-- The end of a transmission releases the copy, counts it as sent and lets the port choose its next one; in DRAINING it
ends the drain where the port is empty and the quiet marker has come, and leaves the slot there otherwise. T goes before C,
and C before S and B, which share the port by deficit round robin: the class of the turn sends its head where its deficit,
raised by its quantum as the turn opens, covers it, and passes the turn otherwise. A credit message carries all of the
slot's unsent credit in messages of 1 to 64 blocks, class by class in the order T, C, S, B, as do the messages before a next
packet. That the end of a transmission without a copy in transmission is no event is the model's choice (log 7), and so are
the several messages of an unsent count above 64 (log 33), and that the next choice sends the credit that waits before the
arbiter runs over the blocks just released (log 37). -/
def Obligations.TransmissionEndAndCreditMessage : Prop :=
  ∀ (n : SlotId) (k k' : TrafficClass) (c c' : Copy) (d : Descriptor) (p p' : Port) (l l' : List Copy)
    (u : OffPurpose) (s : State),
    (s.buffer.ports[n].sending = none → exec (.transmissionEnd n) s = .next s)
    ∧ (s.buffer.ports[n].sending = some (k, c) → s.lanes[n].status = .up →
      s.slots[n].state = .active ∨ s.slots[n].state = .draining u
        ∧ ¬(portEmpty { s.buffer.ports[n] with sending := none } = true ∧ s.lanes[n].quiet = true) →
      ∃ t : State, exec (.transmissionEnd n) s = .next t
        ∧ t.buffer.counters = (countSent n s).buffer.counters ∧ t.slots = s.slots ∧ t.lanes = s.lanes
        ∧ (portChoice { s.buffer.ports[n] with sending := none } = none →
            t.buffer.ports[n] = { s.buffer.ports[n] with sending := none } ∧ t.creditMessages = s.creditMessages)
        ∧ (portChoice { s.buffer.ports[n] with sending := none } = some (k', c', p) →
            t.buffer.ports[n] = { p with sending := some (k', c') }
            ∧ t.creditMessages = s.creditMessages.set n (creditMessagesOf s.buffer.credits[n]))
        ∧ (s.buffer.stored.find? (·.id == c.id) = some d → d.owed = [n] →
            t.buffer.stored = s.buffer.stored.filter (fun e => e.id ≠ c.id)
            ∧ t.buffer.free + outstandingBlocks t.buffer = s.buffer.free + d.length + outstandingBlocks s.buffer)
        ∧ (s.buffer.stored.find? (·.id == c.id) = some d → (∃ m ∈ d.owed, m ≠ n) →
            t.buffer.stored = s.buffer.stored.map
              (fun e => if e.id = c.id then { e with owed := e.owed.filter (· ≠ n) } else e)
            ∧ t.buffer.free + outstandingBlocks t.buffer = s.buffer.free + outstandingBlocks s.buffer))
    ∧ (s.buffer.ports[n].sending = some (k, c) → s.slots[n].state = .draining u →
        portEmpty { s.buffer.ports[n] with sending := none } = true → s.lanes[n].quiet = true →
      (s.slots[n].pwrGood = true →
        ∃ t : State, exec (.transmissionEnd n) s = .next t
          ∧ t.buffer.counters = (countSent n s).buffer.counters
          ∧ t.slots[n].state = .poweringOff u ∧ t.slots[n].drawCounted = s.slots[n].drawCounted
          ∧ t.slots[n].pwrEn = false ∧ t.slots[n].offWait = some ⟨s.tb.osc, 61440000⟩
          ∧ t.lanes[n] = ⟨.down, false, none⟩ ∧ slotOutstanding t.buffer n = 0
          ∧ portEmpty t.buffer.ports[n] = true ∧ t.timing[n].state = .off ∧ OthersKept n s t)
      ∧ (s.slots[n].pwrGood = false → n ∉ s.sc.queue →
        ∃ t : State, exec (.transmissionEnd n) s = .next t
          ∧ t.buffer.counters = (countSent n s).buffer.counters ∧ PowerIsOff n u s t))
    ∧ (p.queues.t = c :: l → portChoice p = some (.t, c, { p with queues := { p.queues with t := l } }))
    ∧ (p.queues.t = [] → p.queues.c = c :: l →
        portChoice p = some (.c, c, { p with queues := { p.queues with c := l } }))
    ∧ (portChoice p = some (k', c', p') → c' ∈ perClass p.queues k')
    ∧ (p.queues.t = [] → p.queues.c = [] → p.queues.s = [] → p.queues.b = [] → portChoice p = none)
    ∧ (p.queues.t = [] → p.queues.c = [] → p.turnB = false →
      (p.queues.s = c :: l → c.length ≤ (if p.turnOpened then p.sDeficit else p.sDeficit + p.sQuantum) →
        portChoice p = some (.s, c, { p with
          queues := { p.queues with s := l }
          sDeficit := if l = [] then 0 else (if p.turnOpened then p.sDeficit else p.sDeficit + p.sQuantum) - c.length
          turnB := l.isEmpty
          turnOpened := !l.isEmpty }))
      ∧ (p.queues.s = c :: l → (if p.turnOpened then p.sDeficit else p.sDeficit + p.sQuantum) < c.length →
          p.queues.b = c' :: l' → c'.length ≤ p.bDeficit + p.bQuantum →
        portChoice p = some (.b, c', { p with
          queues := { p.queues with b := l' }
          sDeficit := if p.turnOpened then p.sDeficit else p.sDeficit + p.sQuantum
          bDeficit := if l' = [] then 0 else p.bDeficit + p.bQuantum - c'.length
          turnB := !l'.isEmpty
          turnOpened := !l'.isEmpty }))
      ∧ (p.queues.s = [] → p.queues.b = c' :: l' → c'.length ≤ p.bDeficit + p.bQuantum →
        portChoice p = some (.b, c', { p with
          queues := { p.queues with b := l' }
          bDeficit := if l' = [] then 0 else p.bDeficit + p.bQuantum - c'.length
          turnB := !l'.isEmpty
          turnOpened := !l'.isEmpty })))
    ∧ (p.queues.t = [] → p.queues.c = [] → p.turnB = true →
      (p.queues.b = c :: l → c.length ≤ (if p.turnOpened then p.bDeficit else p.bDeficit + p.bQuantum) →
        portChoice p = some (.b, c, { p with
          queues := { p.queues with b := l }
          bDeficit := if l = [] then 0 else (if p.turnOpened then p.bDeficit else p.bDeficit + p.bQuantum) - c.length
          turnB := !l.isEmpty
          turnOpened := !l.isEmpty }))
      ∧ (p.queues.b = c :: l → (if p.turnOpened then p.bDeficit else p.bDeficit + p.bQuantum) < c.length →
          p.queues.s = c' :: l' → c'.length ≤ p.sDeficit + p.sQuantum →
        portChoice p = some (.s, c', { p with
          queues := { p.queues with s := l' }
          bDeficit := if p.turnOpened then p.bDeficit else p.bDeficit + p.bQuantum
          sDeficit := if l' = [] then 0 else p.sDeficit + p.sQuantum - c'.length
          turnB := l'.isEmpty
          turnOpened := !l'.isEmpty }))
      ∧ (p.queues.b = [] → p.queues.s = c' :: l' → c'.length ≤ p.sDeficit + p.sQuantum →
        portChoice p = some (.s, c', { p with
          queues := { p.queues with s := l' }
          sDeficit := if l' = [] then 0 else p.sDeficit + p.sQuantum - c'.length
          turnB := l'.isEmpty
          turnOpened := !l'.isEmpty })))
    ∧ (¬(p.queues.s = [] ∧ p.queues.b = []) → 1 ≤ p.sQuantum → 1 ≤ p.bQuantum →
        (∀ x ∈ p.queues.s ++ p.queues.b, x.length ≤ 24) → (portChoice p).isSome = true)
    ∧ (s.lanes[n].status = .up ∧ s.buffer.ports[n].sending = none →
        exec (.creditMessageSend n) s = .next { s.setCredits n
          ⟨⟨s.buffer.credits[n].t.limit, s.buffer.credits[n].t.outstanding, 0⟩,
           ⟨s.buffer.credits[n].c.limit, s.buffer.credits[n].c.outstanding, 0⟩,
           ⟨s.buffer.credits[n].s.limit, s.buffer.credits[n].s.outstanding, 0⟩,
           ⟨s.buffer.credits[n].b.limit, s.buffer.credits[n].b.outstanding, 0⟩⟩ with
          creditMessages := s.creditMessages.set n (creditMessagesOf s.buffer.credits[n]) })
    ∧ (∀ x ∈ creditMessagesOf s.buffer.credits[n], 1 ≤ x.blocks ∧ x.blocks ≤ 64)
    ∧ (creditMessagesOf s.buffer.credits[n]).Pairwise (fun x y => allClasses.idxOf x.cls ≤ allClasses.idxOf y.cls)
    ∧ (((creditMessagesOf s.buffer.credits[n]).filter (·.cls == k)).map (·.blocks)).sum
        = (perClass s.buffer.credits[n] k).unsent
    ∧ ((perClass s.buffer.credits[n] k).unsent ≤ 64 →
        (creditMessagesOf s.buffer.credits[n]).filter (·.cls == k)
          = if (perClass s.buffer.credits[n] k).unsent = 0 then [] else [⟨k, (perClass s.buffer.credits[n] k).unsent⟩])
    ∧ (¬(s.lanes[n].status = .up ∧ s.buffer.ports[n].sending = none) → exec (.creditMessageSend n) s = .next s)

/-! ### The timebase -/

/-- The oscillator. One period moves A by S and the position by one, one more at a carry and one less at a borrow;
periods add up; and FRAME_BOUNDARY runs the least number of periods that bring the position to the frame's end, where
CFC counts one, the position starts again at 0 or 1, the settle countdown falls by one, a staged pattern whose target is
reached becomes active, and the announcement of the new frame is stored for every ACTIVE slot that needs timing. A run of at
least five sample periods settles every edge filter at the level that its input shows. That FRAME_BOUNDARY runs the
oscillator up to the boundary, with the edge inputs going on to show their levels, is the model's choice (log 8), and so is
the phase of the sample grid (log 5). -/
def Obligations.OscillatorPeriodsAdvanceFrame : Prop :=
  ∀ (ext : Bool) (te : BitVec 12) (j : Nat) (pt : Pattern) (target : FrameCount) (dests ok : List SlotId) (s : State),
    TimebaseInRange s.tb →
    ((s.tb.osc + 1) % s.tb.samplePeriod ≠ 0 →
      ∃ t : State, exec (.timebaseAdvance ext te) s = .next t
        ∧ t.tb = { s.tb with
            osc := s.tb.osc + 1
            acc := ((s.tb.acc + s.tb.steer) % 4294967296).toNat
            p := (((s.tb.p : Int) + 1 + (s.tb.acc + s.tb.steer) / 4294967296) % 1228800).toNat
            cfc := if (s.tb.p : Int) + 1 + (s.tb.acc + s.tb.steer) / 4294967296 < 1228800 then s.tb.cfc
              else s.tb.cfc + 1
            extFilter := { s.tb.extFilter with raw := ext }
            teFilters := t.tb.teFilters }
        ∧ ∀ n : SlotId, t.tb.teFilters[n] = { s.tb.teFilters[n] with raw := te.getLsbD n.val })
    ∧ (ext = s.tb.extFilter.level → (∀ n : SlotId, te.getLsbD n.val = s.tb.teFilters[n].level) →
      ∃ t : State, exec (.timebaseAdvance ext te) s = .next t
        ∧ t.tb.osc = s.tb.osc + 1
        ∧ t.tb.p = (((s.tb.p : Int) + 1 + (s.tb.acc + s.tb.steer) / 4294967296) % 1228800).toNat)
    ∧ (ext ≠ s.tb.extFilter.level → (s.tb.osc + 1) % s.tb.samplePeriod = 0 → s.tb.refs = [] →
        (∀ n : SlotId, te.getLsbD n.val = s.tb.teFilters[n].level) →
      ∃ t : State, exec (.timebaseAdvance ext te) s = .next t
        ∧ t.tb.extFilter = (if s.tb.extFilter.count + 1 < 5 then ⟨s.tb.extFilter.level, s.tb.extFilter.count + 1, ext⟩
            else ⟨ext, 0, ext⟩)
        ∧ ∀ n : SlotId, t.tb.teFilters[n] = ⟨s.tb.teFilters[n].level, 0, s.tb.teFilters[n].level⟩)
    ∧ advanceBy s.tb (j + 1) = advanceBy s.tb j + advanceBy { s.tb with acc := accAfter s.tb j } 1
    ∧ accAfter s.tb (j + 1) = accAfter { s.tb with acc := accAfter s.tb j } 1
    ∧ (edgesSettled s.tb = true → ∃ t : State, exec .frameBoundary s = .next t
        ∧ t.tb = { s.tb with
            osc := s.tb.osc + periodsTo s.tb 1228800
            acc := accAfter s.tb (periodsTo s.tb 1228800)
            p := s.tb.p + advanceBy s.tb (periodsTo s.tb 1228800) - 1228800
            cfc := s.tb.cfc + 1 }
        ∧ 1228800 ≤ s.tb.p + advanceBy s.tb (periodsTo s.tb 1228800) ∧ t.tb.p ≤ 1
        ∧ (j < periodsTo s.tb 1228800 → s.tb.p + advanceBy s.tb j < 1228800)
        ∧ t.gates.settle = s.gates.settle - 1 ∧ t.slots = s.slots ∧ t.lanes = s.lanes ∧ t.readers = s.readers
        ∧ t.budget = s.budget
        ∧ (s.gates.staged = none → t.gates.staged = none ∧ t.gates.active = s.gates.active)
        ∧ (s.gates.staged = some (pt, target) →
            ((s.tb.cfc + 1 - target).toNat < 2147483648 → t.gates.active = pt ∧ t.gates.staged = none)
            ∧ (2147483648 ≤ (s.tb.cfc + 1 - target).toNat →
                t.gates.active = s.gates.active ∧ t.gates.staged = some (pt, target)))
        ∧ (dests = (allSlots.filter fun n => s.slots[n].state == .active && needsTiming s n) →
          (dests = [] → t.buffer = s.buffer)
          ∧ (dests ≠ [] → s.buffer.free = 0 → t.buffer = { s.buffer with counters := { s.buffer.counters with
              skipped := min 4294967295 (s.buffer.counters.skipped + 1) } })
          ∧ (dests ≠ [] → 0 < s.buffer.free → dests.filter (queueAccepts s .t 1) = ok →
            (ok = [] → t.buffer = (countDiscards .queueLimit dests.length s).buffer)
            ∧ (ok ≠ [] →
              t.buffer.stored = s.buffer.stored ++ [⟨s.buffer.nextId, 1, .t, none, ok, withTrailer
                ([255, 0, 0, 1, 0] ++ frameBytes t.tb.cfc ++ be8 t.tb.quality.number ++ be8 t.gates.active.number
                  ++ allSlots.flatMap (fun n => be8 t.timing[n].state.number) ++ List.replicate 41 0)⟩]
              ∧ t.buffer.free + outstandingBlocks t.buffer + 1 = s.buffer.free + outstandingBlocks s.buffer
              ∧ t.buffer.counters = (countDiscards .queueLimit (dests.length - ok.length) s).buffer.counters
              ∧ ∀ m ∈ ok, ⟨s.buffer.nextId, 1⟩ ∈ portCopies t.buffer.ports[m]))))
    ∧ (s.tb.refs = [] → (∀ n : SlotId, s.timing[n].measuring = none) → 0 < s.tb.samplePeriod →
      ∃ t : State, exec .frameBoundary s = .next t
        ∧ t.tb = { s.tb with
            osc := s.tb.osc + periodsTo s.tb 1228800
            acc := accAfter s.tb (periodsTo s.tb 1228800)
            p := s.tb.p + advanceBy s.tb (periodsTo s.tb 1228800) - 1228800
            cfc := s.tb.cfc + 1
            extFilter := t.tb.extFilter
            teFilters := t.tb.teFilters }
        ∧ (5 * s.tb.samplePeriod ≤ periodsTo s.tb 1228800 →
            t.tb.extFilter = ⟨s.tb.extFilter.raw, 0, s.tb.extFilter.raw⟩
            ∧ ∀ n : SlotId, t.tb.teFilters[n] = ⟨s.tb.teFilters[n].raw, 0, s.tb.teFilters[n].raw⟩))

/-- An edge. A falling edge only moves its filter. The error of a rising one is its corrected position less the
reference offset, brought within half a second. An edge of the selected reference is put to the steering computation in
LOCKED and in ACQUIRING after the step, and there the quality machine counts it: sixteen good edges in a row lock, and the
third jump asks for a step. In LOCKED with a switch pending the first edge decides between the two. In ACQUIRING with a step
pending the first edge steps the timebase by its error, once, with the gates off, the settle countdown at 2, the attempts in
progress aborted and PHASE_STEP raised. That EDGE_TAKEN leaves its input showing the edge's new level is the model's choice
(log 8). That switch pending is cleared and the good and jump counts become 0 where the first edge after a switch asks for a
step is an inference (log 18). -/
def Obligations.EdgeSteersTimebase : Prop :=
  ∀ (src : Ref) (q : RefRec) (last : Nat) (o : QOrigin) (n : SlotId) (a : Attempt) (s : State),
    ((edgeFilter s.tb src).level = true →
      exec (.edgeTaken src) s = .next (s.setTb (setEdgeFilter s.tb ⟨false, 0, false⟩ src)))
    ∧ (s.tb.p < 1228800 → s.tb.refOffset ≤ 122879999 → filterLatency s.tb + sourceDelay s src ≤ 122880000 →
      -61440000 ≤ edgeError s src ∧ edgeError s src ≤ 61439999
      ∧ (edgeError s src - ((secondPosition s.tb : Int) - filterLatency s.tb - sourceDelay s src - s.tb.refOffset))
          % 122880000 = 0)
    ∧ (SelectedEdge src q last s →
      (s.tb.quality = .locked ∧ (s.tb.switchPending = false ∨ (edgeError s src).natAbs ≤ 40)
          ∨ s.tb.quality = .acquiring o ∧ s.tb.stepPending = false →
        ∃ t : State, exec (.edgeTaken src) s = .next t
          ∧ t.tb.lastError = some (edgeError s src, s.tb.cfc)
          ∧ refRec t.tb src = some { q with lastEdge := some s.tb.osc, implausible := 0 }
          ∧ edgeFilter t.tb src = ⟨true, 0, true⟩ ∧ t.tb.selected = some src
          ∧ ((edgeError s src).natAbs ≤ 1200 →
              t.tb.integral = max (-262144) (min 262144 (s.tb.integral - edgeError s src))
              ∧ t.tb.steer = max (-429496) (min 429496 (-16 * edgeError s src + 2 * t.tb.integral)))
          ∧ (1200 < (edgeError s src).natAbs → t.tb.integral = s.tb.integral ∧ t.tb.steer = s.tb.steer)
          ∧ (s.tb.quality = .locked → (edgeError s src).natAbs ≤ 1200 →
              t.tb.quality = .locked ∧ t.tb.switchPending = false ∧ t.tb.jumpCount = 0)
          ∧ (s.tb.quality = .locked → 1200 < (edgeError s src).natAbs → s.tb.jumpCount + 1 < 3 →
              t.tb.quality = .locked ∧ t.tb.jumpCount = s.tb.jumpCount + 1)
          ∧ (s.tb.quality = .locked → 1200 < (edgeError s src).natAbs → 3 ≤ s.tb.jumpCount + 1 → StepAsked .held t)
          ∧ (s.tb.quality = .acquiring o → (edgeError s src).natAbs ≤ 40 → s.tb.goodCount + 1 < 16 →
              t.tb.quality = .acquiring o ∧ t.tb.goodCount = s.tb.goodCount + 1 ∧ t.tb.jumpCount = 0)
          ∧ (s.tb.quality = .acquiring o → (edgeError s src).natAbs ≤ 40 → 16 ≤ s.tb.goodCount + 1 →
              t.tb.quality = .locked ∧ t.tb.goodCount = 0 ∧ t.tb.jumpCount = 0 ∧ t.tb.holdElapsed = 0)
          ∧ (s.tb.quality = .acquiring o → 40 < (edgeError s src).natAbs → (edgeError s src).natAbs ≤ 1200 →
              t.tb.quality = .acquiring o ∧ t.tb.goodCount = 0 ∧ t.tb.jumpCount = 0)
          ∧ (s.tb.quality = .acquiring o → 1200 < (edgeError s src).natAbs → s.tb.jumpCount + 1 < 3 →
              t.tb.quality = .acquiring o ∧ t.tb.goodCount = 0 ∧ t.tb.jumpCount = s.tb.jumpCount + 1)
          ∧ (s.tb.quality = .acquiring o → 1200 < (edgeError s src).natAbs → 3 ≤ s.tb.jumpCount + 1 → StepAsked o t)
          ∧ t.tb.p = s.tb.p ∧ t.tb.cfc = s.tb.cfc ∧ t.tb.acc = s.tb.acc ∧ t.slots = s.slots ∧ t.timing = s.timing
          ∧ t.alarms = s.alarms)
      ∧ (s.tb.quality = .locked → s.tb.switchPending = true → 40 < (edgeError s src).natAbs →
        ∃ t : State, exec (.edgeTaken src) s = .next t
          ∧ StepAsked .held t ∧ t.tb.switchPending = false ∧ t.tb.lastError = s.tb.lastError
          ∧ t.tb.integral = s.tb.integral ∧ t.tb.steer = s.tb.steer ∧ t.tb.p = s.tb.p ∧ t.tb.cfc = s.tb.cfc
          ∧ t.slots = s.slots ∧ t.timing = s.timing)
      ∧ (s.tb.quality = .acquiring o → s.tb.stepPending = true →
        ∃ t : State, exec (.edgeTaken src) s = .next t
          ∧ t.tb = { s.tb with
              p := (((secondPosition s.tb : Int) - edgeError s src) % 122880000).toNat % 1228800
              cfc := t.tb.cfc
              goodCount := 0
              jumpCount := 0
              stepPending := false
              refs := t.tb.refs
              extFilter := t.tb.extFilter
              teFilters := t.tb.teFilters }
          ∧ (s.tb.cfc.toNat + 100 ≤ 4294967296 →
              t.tb.cfc.toNat % 100 = (((secondPosition s.tb : Int) - edgeError s src) % 122880000).toNat / 1228800
              ∧ (t.tb.cfc - s.tb.cfc).toNat < 100)
          ∧ t.gates.settle = 2 ∧ t.gates.slots[n].txg = false ∧ t.gates.slots[n].approached = none
          ∧ (s.timing[n].measuring = some a → a.running = true → resultStaged s.timing[n] = false →
              t.timing[n].measuring = some ⟨a.failed, false, 0, [], 0, 0, none⟩
              ∧ t.timing[n].lastAttempt = some ⟨.aborted, a.sent, a.accepted.length, a.lost, a.outOfRange⟩)
          ∧ (s.timing[n].measuring = none → t.timing[n] = s.timing[n])
          ∧ t.alarms = { s.alarms with table := t.alarms.table, overflow := t.alarms.overflow }
          ∧ (s.alarms.table.length < 48 →
              ∃ r ∈ t.alarms.table, r.code = .phaseStep ∧ r.source = .part ∧ r.active = false ∧ r.acknowledged = false)
          ∧ t.slots = s.slots))

/-- How a reference is trusted and how trust ends. Four edges a second apart, give or take the tolerance, qualify a source;
two implausible ones in a row, or silence, end its qualification. The first qualified source in list order is selected, or
the present one is kept while it is qualified and the setting is not revertive. With a reference the quality goes to
ACQUIRING with a step asked for; a change from one source to another waits for its first edge in LOCKED and asks for a step
in ACQUIRING; without a reference a LOCKED timebase, and one in ACQUIRING that came from HOLDOVER, goes to HOLDOVER with the
holdover value, and one in ACQUIRING that came from FREERUN goes back there; a second in HOLDOVER is counted, and the limit
passed takes the quality to FREERUN. That a silence without an edge before it and a second outside HOLDOVER are no events is
the model's choice (log 7), that EDGE_TAKEN leaves its input showing the edge's new level is too (log 8), and that a pending
step and the counts keep their values where no rule clears them is an inference (log 18). -/
def Obligations.SilenceAndHoldoverEndTrust : Prop :=
  ∀ (src old : Ref) (q q' : RefRec) (o : QOrigin) (pre post : List RefRec) (s : State),
    (RisingEdge src s → refRec s.tb src = some q → q.qualified = false →
      ((∀ last ∈ q.lastEdge, plausibleGap s.tb.osc last = false) →
        exec (.edgeTaken src) s = .next (s.setTb (setRefRec (setEdgeFilter s.tb ⟨true, 0, true⟩ src)
          { q with lastEdge := some s.tb.osc, plausible := 0 })))
      ∧ (q.lastEdge.any (plausibleGap s.tb.osc) = true → q.plausible + 1 < 3 →
        exec (.edgeTaken src) s = .next (s.setTb (setRefRec (setEdgeFilter s.tb ⟨true, 0, true⟩ src)
          { q with lastEdge := some s.tb.osc, plausible := q.plausible + 1 })))
      ∧ (q.lastEdge.any (plausibleGap s.tb.osc) = true → 3 ≤ q.plausible + 1 → s.tb.selected = none →
          (∀ r ∈ s.tb.refs, r.qualified = false) →
        ∃ t : State, exec (.edgeTaken src) s = .next t
          ∧ refRec t.tb src = some ⟨src, true, some s.tb.osc, 0, 0⟩ ∧ t.tb.selected = some src
          ∧ t.tb.everSelected = true
          ∧ (AlarmsDistinct s → ∀ r ∈ t.alarms.table, r.code = .referenceLost → r.source = .ref src → r.subcode = 0 →
              r.active = false)
          ∧ (s.tb.quality = .freerun → StepAsked .free t) ∧ (s.tb.quality = .holdover → StepAsked .held t)
          ∧ t.tb.p = s.tb.p ∧ t.tb.cfc = s.tb.cfc ∧ t.tb.integral = s.tb.integral ∧ t.tb.steer = s.tb.steer
          ∧ t.slots = s.slots ∧ t.timing = s.timing)
      ∧ (q.lastEdge.any (plausibleGap s.tb.osc) = true → 3 ≤ q.plausible + 1 → s.tb.selected = some old → old ≠ src →
          s.tb.revertive = true → s.tb.refs = pre ++ q :: post → (∀ r ∈ pre, r.qualified = false) →
        ∃ t : State, exec (.edgeTaken src) s = .next t
          ∧ refRec t.tb src = some ⟨src, true, some s.tb.osc, 0, 0⟩ ∧ SelectionMoved src s t
          ∧ t.slots = s.slots ∧ t.timing = s.timing))
    ∧ (RisingEdge src s → refRec s.tb src = some q → q.qualified = true →
      (q.lastEdge.any (plausibleGap s.tb.osc) = true → s.tb.selected ≠ some src →
        exec (.edgeTaken src) s = .next (s.setTb (setRefRec (setEdgeFilter s.tb ⟨true, 0, true⟩ src)
          { q with lastEdge := some s.tb.osc, implausible := 0 })))
      ∧ (q.lastEdge.any (plausibleGap s.tb.osc) = false → q.implausible + 1 < 2 →
        exec (.edgeTaken src) s = .next (s.setTb (setRefRec (setEdgeFilter s.tb ⟨true, 0, true⟩ src)
          { q with implausible := q.implausible + 1 })))
      ∧ (q.lastEdge.any (plausibleGap s.tb.osc) = false → 2 ≤ q.implausible + 1 → s.tb.selected = some src →
          s.tb.quality = .locked → (∀ r ∈ s.tb.refs, r.qualified = true → r.src = src) →
        ∃ t : State, exec (.edgeTaken src) s = .next t
          ∧ refRec t.tb src = some ⟨src, false, some s.tb.osc, 0, 0⟩ ∧ t.tb.selected = none ∧ t.tb.quality = .holdover
          ∧ t.tb.steer = max (-429496) (min 429496 (2 * s.tb.integral)) ∧ t.slots = s.slots))
    ∧ (s.tb.refs = pre ++ q :: post → (∀ r ∈ pre, r.qualified = false) → q.qualified = true →
      (s.tb.selected = none ∨ s.tb.revertive = true → chosenRef s.tb = some q.src)
      ∧ (s.tb.selected = some src → s.tb.revertive = false →
        (∃ r ∈ s.tb.refs, r.src = src ∧ r.qualified = true) → chosenRef s.tb = some src)
      ∧ (s.tb.selected = some src → (∀ r ∈ s.tb.refs, r.src = src → r.qualified = false) →
        chosenRef s.tb = some q.src))
    ∧ ((∀ r ∈ s.tb.refs, r.qualified = false) → chosenRef s.tb = none)
    ∧ (refRec s.tb src = none ∨ refRec s.tb src = some q ∧ q.lastEdge = none →
      exec (.referenceSilenceExpiry src) s = .next s)
    ∧ (refRec s.tb src = some q → q.lastEdge ≠ none → q.qualified = false →
      exec (.referenceSilenceExpiry src) s = .next (s.setTb (setRefRec s.tb ⟨src, false, none, 0, 0⟩)))
    ∧ (refRec s.tb src = some q → q.lastEdge ≠ none → q.qualified = true → s.tb.selected = some src →
      s.tb.quality = .locked → (∀ r ∈ s.tb.refs, r.qualified = true → r.src = src) →
      ∃ t : State, exec (.referenceSilenceExpiry src) s = .next t
        ∧ t.tb.quality = .holdover ∧ t.tb.selected = none ∧ refRec t.tb src = some ⟨src, false, none, 0, 0⟩
        ∧ t.tb.steer = max (-429496) (min 429496 (2 * s.tb.integral)) ∧ t.tb.integral = s.tb.integral
        ∧ t.tb.switchPending = false ∧ t.tb.holdElapsed = s.tb.holdElapsed ∧ t.tb.p = s.tb.p ∧ t.tb.cfc = s.tb.cfc
        ∧ t.slots = s.slots)
    ∧ (refRec s.tb src = some q → q.lastEdge ≠ none → q.qualified = true → s.tb.selected = some src →
      s.tb.refs = pre ++ q' :: post → (∀ r ∈ pre, r.qualified = true → r.src = src) → q'.qualified = true →
      q'.src ≠ src →
      ∃ t : State, exec (.referenceSilenceExpiry src) s = .next t
        ∧ refRec t.tb src = some ⟨src, false, none, 0, 0⟩ ∧ SelectionMoved q'.src s t
        ∧ t.slots = s.slots ∧ t.timing = s.timing)
    ∧ (refRec s.tb src = some q → q.lastEdge ≠ none → q.qualified = true → s.tb.selected = some src →
      s.tb.quality = .acquiring o → (∀ r ∈ s.tb.refs, r.qualified = true → r.src = src) →
      ∃ t : State, exec (.referenceSilenceExpiry src) s = .next t
        ∧ t.tb.selected = none ∧ refRec t.tb src = some ⟨src, false, none, 0, 0⟩
        ∧ (o = .held → t.tb.quality = .holdover ∧ t.tb.steer = max (-429496) (min 429496 (2 * s.tb.integral)))
        ∧ (o = .free → t.tb.quality = .freerun ∧ t.tb.steer = s.tb.steer)
        ∧ t.tb.integral = s.tb.integral ∧ t.tb.holdElapsed = s.tb.holdElapsed ∧ t.tb.p = s.tb.p ∧ t.tb.cfc = s.tb.cfc
        ∧ t.slots = s.slots ∧ t.timing = s.timing)
    ∧ (s.tb.quality ≠ .holdover → exec .holdoverSecond s = .next s)
    ∧ (s.tb.quality = .holdover → s.tb.holdElapsed + 1 ≤ s.tb.holdoverLimit →
      exec .holdoverSecond s = .next (s.setTb { s.tb with holdElapsed := s.tb.holdElapsed + 1 }))
    ∧ (s.tb.quality = .holdover → s.tb.holdoverLimit < s.tb.holdElapsed + 1 →
      ∃ t : State, exec .holdoverSecond s = .next t
        ∧ t.tb = { s.tb with holdElapsed := s.tb.holdElapsed + 1, quality := .freerun }
        ∧ t.slots = s.slots ∧ t.timing = s.timing)

/-- The steering word, the integral and every compensation stay within their ranges at every step. -/
def Obligations.SteeringAndCompensationStayInRange : Prop :=
  ∀ s t : State, step s = .next t →
    (SteeringInRange s → SteeringInRange t) ∧ (CompensationInRange s → CompensationInRange t)

/-- TIMING_SET takes every setting present, clamped, and keeps the others; a source kept on a new list keeps its record;
in FREERUN another list sets I and S to 0; a limit below the elapsed time ends a HOLDOVER. That a TIMING_SET without a
limit ends a HOLDOVER too whose elapsed time has passed the limit in force is the model's choice (log 34). A bad list or
sample period is refused and changes nothing. -/
def Obligations.TimingSetTakesSettings : Prop :=
  ∀ (tag : Byte) (f : TimingFields) (l : List Ref) (s : State), Ready (.timingSet tag (.fields f)) s →
    ((∃ k ∈ f.samplePeriod, k ≠ 1 ∧ k ≠ 2 ∧ k ≠ 8) ∨ (∃ x ∈ f.refs, 3 < x.length ∨ ¬x.Nodup ∨ ∃ k ∈ x, 12 < k) →
      exec (.timingSet tag (.fields f)) s = .next (refused 22 tag .badField s))
    ∧ ((∀ k ∈ f.samplePeriod, k = 1 ∨ k = 2 ∨ k = 8) → f.refs = none ∨ f.refs = some (l.map refNumber) →
      l.length ≤ 3 → l.Nodup →
      ∃ t : State, exec (.timingSet tag (.fields f)) s = .next t
        ∧ t.tb.revertive = f.revertive.getD s.tb.revertive
        ∧ t.tb.cableDelay = (f.cableDelay.map (min 65535)).getD s.tb.cableDelay
        ∧ t.tb.refOffset = (f.refOffset.map (min 122879999)).getD s.tb.refOffset
        ∧ t.tb.holdoverLimit = (f.holdoverLimit.map (min 65535)).getD s.tb.holdoverLimit
        ∧ t.tb.samplePeriod = f.samplePeriod.getD s.tb.samplePeriod
        ∧ (f.refs = none → t.tb.refs = s.tb.refs)
        ∧ (f.refs ≠ none → t.tb.refs = l.map fun r => (s.tb.refs.find? (·.src == r)).getD ⟨r, false, none, 0, 0⟩)
        ∧ (s.tb.quality = .freerun → f.refs ≠ none → l ≠ s.tb.refs.map (·.src) → t.tb.integral = 0 ∧ t.tb.steer = 0)
        ∧ (s.tb.quality = .holdover → t.tb.selected = none → t.tb.holdoverLimit < s.tb.holdElapsed →
            t.tb.quality = .freerun)
        ∧ Answered tag ([22] ++ settingBytes t.tb) s t
        ∧ t.tb.p = s.tb.p ∧ t.tb.cfc = s.tb.cfc ∧ t.tb.acc = s.tb.acc ∧ t.slots = s.slots ∧ t.timing = s.timing
        ∧ t.buffer = s.buffer ∧ t.routes = s.routes ∧ t.budget = s.budget)

/-! ### Delay measurement, frame pulses and gates -/

/-- The FP output and the measurement. A probe starts at position 614,400 of a probe frame and opens its window, a frame
pulse starts at Q in any other frame, and each ends by its own command. The echo closes the window and gives the round trip
less the latency and the turnaround: a value of 0 to 4,096 is accepted, and the eighth makes the computation of D and C by
the median window and stages them. A probe window that closes without an echo counts a lost probe; the attempt fails when it
can no longer reach 8 values, and the third failed attempt ends the measurement. A frame boundary applies the staged values,
which aligns the slot where they are a result, and sends the attempt's next probe. That PROBE_START and FRAME_PULSE_START run
the oscillator up to their instant, and that EDGE_TAKEN leaves its input showing the edge's new level, is the model's choice
(log 8), that they, and an expiry without an open window, are otherwise no events is (log 7), and so is that a pulse with
Q = 0 takes the place of one that still runs (log 38). -/
def Obligations.ProbesAndPulsesDriveOutput : Prop :=
  ∀ (n : SlotId) (a : Attempt) (d w r : Nat) (m : MedianData) (v : Staged) (l l' : List Nat) (e : Int)
    (s : State), TimebaseInRange s.tb →
    (s.timing[n].measuring = some a → a.running = true → s.timing[n].probeDue = true → s.timing[n].probeFrame = true →
      s.tb.p < 614400 → edgesSettled s.tb = true →
      ∃ t : State, exec (.probeStart n) s = .next t
        ∧ t.timing[n] = { s.timing[n] with
            probeDue := false
            fp := .probe (s.tb.osc + periodsTo s.tb 614400)
            measuring := some { a with window := some (s.tb.osc + periodsTo s.tb 614400) } }
        ∧ t.tb.osc = s.tb.osc + periodsTo s.tb 614400 ∧ 614400 ≤ t.tb.p ∧ t.tb.p ≤ 614401 ∧ t.tb.cfc = s.tb.cfc
        ∧ t.slots = s.slots ∧ t.lanes = s.lanes ∧ t.buffer = s.buffer)
    ∧ (s.timing[n].probeDue = false ∨ s.timing[n].measuring = none → exec (.probeStart n) s = .next s)
    ∧ exec (.probePulseEnd n) s = .next (match s.timing[n].fp with
        | .probe _ => s.setTiming n { s.timing[n] with fp := .low }
        | .low | .pulse _ => s)
    ∧ exec (.framePulseEnd n) s = .next (match s.timing[n].fp with
        | .pulse _ => s.setTiming n { s.timing[n] with fp := .low }
        | .low | .probe _ => s)
    ∧ (s.timing[n].state ≠ .aligned → exec (.framePulseStart n) s = .next s)
    ∧ (s.timing[n].state = .aligned → 2 ≤ compOf s n → compOf s n ≤ 65535 → s.pulseHold = false →
      s.timing[n].probeFrame = false → s.tb.p < 1228800 - compOf s n → edgesSettled s.tb = true →
      ∃ t : State, exec (.framePulseStart n) s = .next t
        ∧ t.timing[n].fp = .pulse (s.tb.osc + periodsTo s.tb (1228800 - compOf s n))
        ∧ t.tb.osc = s.tb.osc + periodsTo s.tb (1228800 - compOf s n)
        ∧ 1228800 - compOf s n ≤ t.tb.p ∧ t.tb.p ≤ 1228801 - compOf s n ∧ t.tb.cfc = s.tb.cfc ∧ t.slots = s.slots)
    ∧ (s.timing[n].state = .aligned → s.timing[n].values = some (d, 0) → s.timing[n].staged = none →
      s.timing[n].measuring = none → s.pulseHold = false → edgesSettled s.tb = true →
      ∃ t : State, exec (.framePulseStart n) s = .next t
        ∧ t.timing[n].fp = .pulse t.tb.osc ∧ t.tb.cfc = s.tb.cfc + 1 ∧ t.tb.p ≤ 1)
    ∧ (s.timing[n].state = .aligned → s.timing[n].values = some (d, 1) → s.pulseHold = false →
      s.timing[n].probeFrame = false → s.tb.p < 1228799 → edgesSettled s.tb = true →
      ∃ t : State, exec (.framePulseStart n) s = .next t
        ∧ t.timing[n].fp = .pulse (s.tb.osc + periodsTo s.tb 1228799)
        ∧ t.tb.osc = s.tb.osc + periodsTo s.tb 1228799
        ∧ (t.tb.p = 1228799 ∧ t.tb.cfc = s.tb.cfc ∨ t.tb.p = 0 ∧ t.tb.cfc = s.tb.cfc + 1) ∧ t.slots = s.slots)
    ∧ (edgesSettled s.tb = true →
      ∃ t : State, exec .frameBoundary s = .next t
        ∧ t.tb.cfc = s.tb.cfc + 1 ∧ t.timing[n].staged = none ∧ t.timing[n].trim = s.timing[n].trim
        ∧ (s.timing[n].staged = none → t.timing[n].values = s.timing[n].values
            ∧ t.timing[n].state = s.timing[n].state ∧ t.timing[n].lastResult = s.timing[n].lastResult)
        ∧ (s.timing[n].staged = some v → t.timing[n].values = some (v.delay, v.comp)
          ∧ (v.result = none → t.timing[n].state = s.timing[n].state
              ∧ t.timing[n].lastResult = s.timing[n].lastResult)
          ∧ (v.result = some m → t.timing[n].state = .aligned ∧ t.timing[n].measuring = none
              ∧ t.timing[n].lastResult = some ⟨m, v.delay, v.comp, s.tb.cfc + 1⟩
              ∧ t.timing[n].unstableRaised = false ∧ t.timing[n].probeFrame = false
              ∧ (AlarmsDistinct s → s.timing[n].unstableRaised = true →
                  ∀ y ∈ t.alarms.table, y.code = .delayUnstable → y.source = .slot n → y.subcode = 0 → y.active = false)))
        ∧ (s.timing[n].measuring = none → t.timing[n].measuring = none ∧ t.timing[n].probeFrame = false)
        ∧ (s.timing[n].measuring = some a → resultStaged s.timing[n] = false → a.sent < 16 →
            t.timing[n].probeFrame = true ∧ t.timing[n].probeDue = true
            ∧ t.timing[n].measuring.map (fun b => { b with window := none })
              = some { a with running := true, sent := a.sent + 1, window := none })
        ∧ (t.pulseHold = true ↔ s.pulseHold = true ∧ s.tb.stepPending = true
            ∧ (s.tb.quality = .acquiring .free ∨ s.tb.quality = .acquiring .held)))
    ∧ ((edgeFilter s.tb (.slot n)).level = false → eligible s n = false →
      (s.timing[n].measuring = none ∨ s.timing[n].measuring = some { a with window := none } →
        exec (.edgeTaken (.slot n)) s = .next (s.setTb (setEdgeFilter s.tb ⟨true, 0, true⟩ (.slot n))))
      ∧ (s.timing[n].measuring = some { a with window := some w } →
        (((secondPosition s.tb % 1228800 + 614400) % 1228800 : Nat) : Int) - 4 * s.tb.samplePeriod - turnaround s n = r →
          r ≤ 4096 →
          (a.accepted.length + 1 < 8 →
            exec (.edgeTaken (.slot n)) s = .next ((s.setTb (setEdgeFilter s.tb ⟨true, 0, true⟩ (.slot n))).setTiming n
              { s.timing[n] with measuring := some { a with window := none, accepted := a.accepted ++ [r] } }))
          ∧ (8 ≤ a.accepted.length + 1 → medianData (a.accepted ++ [r]) = some m →
              (max 0 (min 4096 (((m.sum + m.kept) / (2 * m.kept) : Nat) + asymmetryOf s n))).toNat = d →
            exec (.edgeTaken (.slot n)) s = .next ((s.setTb (setEdgeFilter s.tb ⟨true, 0, true⟩ (.slot n))).setTiming n
              { s.timing[n] with
                measuring := some { a with window := none, accepted := a.accepted ++ [r], running := false }
                staged := some ⟨d,
                  (max 0 (min 65535 ((d : Int) + internalDelay s n + s.timing[n].trim))).toNat, some m⟩
                lastAttempt := some ⟨.succeeded, a.sent, a.accepted.length + 1, a.lost, a.outOfRange⟩ }))
          ∧ (8 ≤ a.accepted.length + 1 → medianData (a.accepted ++ [r]) = none → a.failed + 1 < 3 →
            exec (.edgeTaken (.slot n)) s = .next ((s.setTb (setEdgeFilter s.tb ⟨true, 0, true⟩ (.slot n))).setTiming n
              { s.timing[n] with
                measuring := some ⟨a.failed + 1, false, 0, [], 0, 0, none⟩
                lastAttempt := some ⟨.failed, a.sent, a.accepted.length + 1, a.lost, a.outOfRange⟩ })))
      ∧ (s.timing[n].measuring = some { a with window := some w } →
        (((secondPosition s.tb % 1228800 + 614400) % 1228800 : Nat) : Int) - 4 * s.tb.samplePeriod - turnaround s n = e →
          e < 0 ∨ 4096 < e → 8 ≤ a.accepted.length + (16 - a.sent) →
          exec (.edgeTaken (.slot n)) s = .next ((s.setTb (setEdgeFilter s.tb ⟨true, 0, true⟩ (.slot n))).setTiming n
            { s.timing[n] with measuring := some { a with window := none, outOfRange := a.outOfRange + 1 } })))
    ∧ (l'.Perm l → l'.Pairwise (· ≤ ·) → (l'.getD 3 0 + l'.getD 4 0) / 2 = d →
      medianData l = (if (l'.filter fun x => d ≤ x + 8 && x ≤ d + 8).length < 5 then none
        else some ⟨d, (l'.filter fun x => d ≤ x + 8 && x ≤ d + 8).length,
          (l'.filter fun x => d ≤ x + 8 && x ≤ d + 8).sum⟩))
    ∧ (s.timing[n].measuring = none ∨ s.timing[n].measuring = some { a with window := none } →
      exec (.probeWindowExpiry n) s = .next s)
    ∧ (s.timing[n].measuring = some { a with window := some w } →
      (8 ≤ a.accepted.length + (16 - a.sent) →
        exec (.probeWindowExpiry n) s = .next (s.setTiming n { s.timing[n] with
          measuring := some { a with window := none, lost := a.lost + 1 } }))
      ∧ (a.accepted.length + (16 - a.sent) < 8 → a.failed + 1 < 3 →
        exec (.probeWindowExpiry n) s = .next (s.setTiming n { s.timing[n] with
          lastAttempt := some ⟨.failed, a.sent, a.accepted.length, a.lost + 1, a.outOfRange⟩
          measuring := some ⟨a.failed + 1, false, 0, [], 0, 0, none⟩ }))
      ∧ (a.accepted.length + (16 - a.sent) < 8 → 3 ≤ a.failed + 1 →
        ∃ t : State, exec (.probeWindowExpiry n) s = .next t
          ∧ t.timing[n] = { s.timing[n] with
              lastAttempt := some ⟨.failed, a.sent, a.accepted.length, a.lost + 1, a.outOfRange⟩
              measuring := none, unstableRaised := true
              state := if s.timing[n].state = .measuring then .unstable else s.timing[n].state }
          ∧ t.alarms = (raiseAlarm .delayUnstable (.slot n) 0 .major s).alarms ∧ OthersKept n s t))

/-- DELAY_MEASURE with mode START is tested by slot state, selection and measurement in flight, in that order, and then
starts a measurement. TRIM_SET clamps and takes the trim, and stages the C that it gives a slot with staged values or an
ALIGNED one. The layout of the reply to TRIM_SET is the model's choice (log 12). -/
def Obligations.DelayMeasureAndTrimSet : Prop :=
  ∀ (tag : Byte) (n : SlotId) (k : Nat) (f : TrimFields) (v : Staged) (dc : Nat × Nat) (tr : Int) (s : State),
    (Ready (.delayMeasureStart tag (.fields k)) s → k = 0 ∨ 12 < k →
      exec (.delayMeasureStart tag (.fields k)) s = .next (refused 24 tag .badField s))
    ∧ (Ready (.delayMeasureStart tag (.fields (slotNumber n))) s →
      (¬(s.slots[n].state = .training ∨ s.slots[n].state = .active) ∨ s.tb.selected = some (.slot n) →
        exec (.delayMeasureStart tag (.fields (slotNumber n))) s = .next (refused 24 tag .wrongState s))
      ∧ (s.slots[n].state = .training ∨ s.slots[n].state = .active → s.tb.selected ≠ some (.slot n) →
        (s.timing[n].measuring.isSome = true →
          exec (.delayMeasureStart tag (.fields (slotNumber n))) s = .next (refused 24 tag .busy s))
        ∧ (s.timing[n].measuring = none →
          ∃ t : State, exec (.delayMeasureStart tag (.fields (slotNumber n))) s = .next t ∧ Answered tag [24] s t
            ∧ t.timing[n] = { s.timing[n] with
                measuring := some ⟨0, false, 0, [], 0, 0, none⟩
                state := if s.timing[n].state = .aligned then .aligned else .measuring }
            ∧ t.slots = s.slots ∧ OthersKept n s t
            ∧ (onList s.tb (.slot n) = true → refRec t.tb (.slot n) = some ⟨.slot n, false, none, 0, 0⟩))))
    ∧ (Ready (.trimSet tag (.fields f)) s → f.slot = 0 ∨ 12 < f.slot →
      exec (.trimSet tag (.fields f)) s = .next (refused 25 tag .badField s))
    ∧ (Ready (.trimSet tag (.fields f)) s → f.slot = slotNumber n → max (-2048) (min 2047 f.trim) = tr →
      ∃ t : State, exec (.trimSet tag (.fields f)) s = .next t
        ∧ t = accepted 25 tag (beS16 tr ++ timingBytes t.timing[n]) (s.setTiming n t.timing[n])
        ∧ (s.timing[n].staged = some v → t.timing[n] = { s.timing[n] with trim := tr, staged := some { v with
            comp := (max 0 (min 65535 ((v.delay : Int) + internalDelay s n + tr))).toNat } })
        ∧ (s.timing[n].staged = none → s.timing[n].state = .aligned → s.timing[n].values = some dc →
            t.timing[n] = { s.timing[n] with trim := tr, staged := some ⟨dc.1,
              (max 0 (min 65535 ((dc.1 : Int) + internalDelay s n + tr))).toNat, none⟩ })
        ∧ (s.timing[n].staged = none → s.timing[n].state ≠ .aligned →
            t.timing[n] = { s.timing[n] with trim := tr }))

/-- The gate commands run the oscillator to the event they name, where no other window acts meanwhile: at a window's
leading guard it is approached, at its start TXG rises if every transmit condition holds, at its end TXG is off and the
guard hold is at least the guard, and a guard hold that no window renews reaches 0. That the row runs the oscillator up to
its event, and that a command whose event does not lie ahead in the frame does nothing, is the model's choice (log 8). That an
advance by 2 over the one position of a guard of 1 approaches the window too, and that the end of any occurrence, also of one
that was not approached, makes the approached window absent, is the model's choice (log 36). -/
def Obligations.GateCommandsFollowWindow : Prop :=
  ∀ (n : SlotId) (o : Placed) (x : Nat) (s : State), TimebaseInRange s.tb →
    (approachTarget s n = none → exec (.windowApproach n) s = .next s)
    ∧ (riseTarget s n = none → exec (.txgRise n) s = .next s)
    ∧ (endTarget s n = none → exec (.windowEnd n) s = .next s)
    ∧ (s.gates.slots[n].guardHold = 0 → exec (.guardHoldExpiry n) s = .next s)
    ∧ (edgesSettled s.tb = true → s.tb.p < x → x + 1 < 1228800 → o ∈ occurrences s → o.start < o.stop →
      AloneUpTo (occurrences s) o (slotCoord s n) (x + compOf s n + 1) →
      (approachTarget s n = some x → o.start = x + compOf s n + o.guardTime → x + compOf s n + 1 < o.stop →
        ∃ t : State, exec (.windowApproach n) s = .next t
          ∧ x ≤ t.tb.p ∧ t.tb.p ≤ x + 1 ∧ t.gates.slots[n].approached = some o.occ ∧ t.slots = s.slots
          ∧ t.tb.cfc = s.tb.cfc)
      ∧ (riseTarget s n = some x → s.gates.slots[n].approached = some o.occ → o.start = x + compOf s n →
          x + compOf s n + 1 < o.stop →
        ∃ t : State, exec (.txgRise n) s = .next t
          ∧ x ≤ t.tb.p ∧ t.tb.p ≤ x + 1 ∧ t.gates.slots[n].approached = some o.occ ∧ t.slots = s.slots
          ∧ t.gates.slots[n].txg = (s.gates.slots[n].txg || mayTransmit s n) ∧ t.tb.cfc = s.tb.cfc)
      ∧ (endTarget s n = some x → o.stop = x + compOf s n →
        ∃ t : State, exec (.windowEnd n) s = .next t
          ∧ x ≤ t.tb.p ∧ t.tb.p ≤ x + 1 ∧ t.gates.slots[n].txg = false ∧ t.gates.slots[n].approached = none
          ∧ o.guardTime ≤ t.gates.slots[n].guardHold + (t.tb.p - x) ∧ t.slots = s.slots ∧ t.tb.cfc = s.tb.cfc))
    ∧ (edgesSettled s.tb = true → 0 < s.gates.slots[n].guardHold → s.tb.p + s.gates.slots[n].guardHold + 1 < 1228800 →
      (s.timing[n].state = .aligned → ∀ q ∈ occurrences s, ∀ y ∈ q.positions,
        ¬(slotCoord s n < y ∧ y ≤ slotCoord s n + s.gates.slots[n].guardHold + 1)) →
      ∃ t : State, exec (.guardHoldExpiry n) s = .next t
        ∧ t.gates.slots[n] = { s.gates.slots[n] with guardHold := 0 }
        ∧ s.tb.p + s.gates.slots[n].guardHold ≤ t.tb.p ∧ t.tb.p ≤ s.tb.p + s.gates.slots[n].guardHold + 1
        ∧ t.slots = s.slots ∧ t.tb.cfc = s.tb.cfc)

/-- From a state in which slots, lanes and queues agree, every step keeps TXG off where a transmit condition is missing,
keeps every slot out of the powered states while the cutoff latch is SET, and leaves credit with ACTIVE and DRAINING
slots only. Every step keeps the windows within their frame and the timebase in its range, and with these a TXG that is on lies
inside a window occurrence, where RXG is off: the two gates of a slot are never on together. -/
def Obligations.TxgStaysVouched : Prop :=
  ∀ s t : State, SlotsCoherent s → step s = .next t →
    (TxgVouched s → TxgVouched t) ∧ (CutoffHolds s → CutoffHolds t) ∧ (CreditInServiceOnly s → CreditInServiceOnly t)
    ∧ (PatternsProper s → PatternsProper t) ∧ (TimebaseInRange s.tb → TimebaseInRange t.tb)
    ∧ (TxgVouched s → PatternsProper s → TimebaseInRange s.tb → TxgInside s →
        TxgInside t ∧ ∀ n : SlotId, ¬(t.gates.slots[n].txg = true ∧ rxg t n = true))

/-! ### Alarms, relays and patterns -/

/-- A filtered change of an alarm input and an INPUT_SET reach the owners of its action in the same operation: the effective
capacity and the maintenance inhibit follow the inputs, and an input newly active with action CUTOFF sets a CLEAR latch.
INPUT_ACTIVE is raised, at the severity of the input, where the input becomes active, before all that its owner does, and is
cleared where it becomes inactive. That INPUT_ACTIVE and its notice come before the owner's share, and that an INPUT_SET
takes its severity before its action and its polarity, so that a raise has the new severity, is the model's choice of order
(log 9). That a filtered change without a hold running is no event is its choice too (log 7), and so is the layout of the
reply (log 12). -/
def Obligations.AlarmInputChangesReachOwners : Prop :=
  ∀ (tag : Byte) (i j : InputId) (h : InputHold) (f : InputFields) (s : State),
    (s.alarms.inputs[i].hold = none → exec (.alarmInputFilteredChange i) s = .next s)
    ∧ (s.alarms.inputs[i].hold = some h →
      ∃ t : State, exec (.alarmInputFilteredChange i) s = .next t
        ∧ t.alarms.inputs[i] = { s.alarms.inputs[i] with level := h.level, hold := none }
        ∧ (j ≠ i → t.alarms.inputs[j] = s.alarms.inputs[j])
        ∧ t.budget.effective = min (if actionActive t .mainsFail = true then min s.budget.mains s.budget.battery
            else s.budget.mains) (if actionActive t .thermal = true then s.budget.thermal else s.budget.mains)
        ∧ t.gates.maintenance = actionActive t .maintenance
        ∧ t.budget.latch = (if t.alarms.inputs[i].isActive = true ∧ t.alarms.inputs[i].action = .cutoff
              ∧ s.alarms.inputs[i].isActive = false ∧ s.budget.latch = none then some ⟨.input i, s.tb.cfc⟩
            else s.budget.latch)
        ∧ (s.alarms.inputs[i].action = .report → s.budget.effective = effectiveCapacity s →
            t.slots = s.slots ∧ t.readers = s.readers ∧ t.lanes = s.lanes ∧ t.timing = s.timing ∧ t.sc = s.sc
            ∧ t.routes = s.routes ∧ t.buffer = s.buffer ∧ t.tb = s.tb
            ∧ t.alarms.table = (if t.alarms.inputs[i].isActive = s.alarms.inputs[i].isActive then s
                else if t.alarms.inputs[i].isActive = true then
                  raiseAlarm .inputActive (.input i) 0 s.alarms.inputs[i].severity s
                else clearAlarm .inputActive (.input i) 0 s).alarms.table)
        ∧ (s.alarms.inputs[i].isActive = false → t.alarms.inputs[i].isActive = true →
            (raiseAlarm .inputActive (.input i) 0 s.alarms.inputs[i].severity s).mgmt.transmit <+: t.mgmt.transmit)
        ∧ (s.alarms.inputs[i].isActive = true → t.alarms.inputs[i].isActive = false →
            (clearAlarm .inputActive (.input i) 0 s).mgmt.transmit <+: t.mgmt.transmit
            ∧ (AlarmsDistinct s → ∀ r ∈ t.alarms.table, r.code = .inputActive → r.source = .input i → r.subcode = 0 →
                r.active = false)))
    ∧ (Ready (.inputSet tag (.fields f)) s → f.input = 0 ∨ 8 < f.input →
      exec (.inputSet tag (.fields f)) s = .next (refused 30 tag .badField s))
    ∧ (Ready (.inputSet tag (.fields f)) s → f.input = inputNumber i →
      ∃ t : State, exec (.inputSet tag (.fields f)) s = .next t
        ∧ t.alarms.inputs[i] = { s.alarms.inputs[i] with
            polarity := f.polarity.getD s.alarms.inputs[i].polarity
            debounce := (f.debounce.map fun x => max 10 (min 250 (x / 10 * 10))).getD s.alarms.inputs[i].debounce
            action := f.action.getD s.alarms.inputs[i].action
            severity := f.severity.getD s.alarms.inputs[i].severity }
        ∧ (j ≠ i → t.alarms.inputs[j] = s.alarms.inputs[j])
        ∧ Answered tag ([30] ++ inputSetReply i t.alarms.inputs[i]) s t
        ∧ t.budget.effective = min (if actionActive t .mainsFail = true then min s.budget.mains s.budget.battery
            else s.budget.mains) (if actionActive t .thermal = true then s.budget.thermal else s.budget.mains)
        ∧ t.gates.maintenance = actionActive t .maintenance
        ∧ (t.alarms.inputs[i].isActive = true → t.alarms.inputs[i].action = .cutoff →
            ¬(s.alarms.inputs[i].isActive = true ∧ s.alarms.inputs[i].action = .cutoff) → s.budget.latch = none →
            t.budget.latch = some ⟨.input i, s.tb.cfc⟩)
        ∧ (s.budget.latch.isSome = true → t.budget.latch = s.budget.latch)
        ∧ (s.alarms.inputs[i].isActive = false → t.alarms.inputs[i].isActive = true →
            s.budget.effective = effectiveCapacity s →
            (raiseAlarm .inputActive (.input i) 0 t.alarms.inputs[i].severity
              (accepted 30 tag (inputSetReply i t.alarms.inputs[i]) s)).mgmt.transmit <+: t.mgmt.transmit)
        ∧ (s.alarms.inputs[i].isActive = true → t.alarms.inputs[i].isActive = false → AlarmsDistinct s →
            ∀ r ∈ t.alarms.table, r.code = .inputActive → r.source = .input i → r.subcode = 0 → r.active = false))

/-- ALARM_ACK by the record with its code, source and subcode: BAD_FIELD, NOT_FOUND, STALE with the present raise count,
the record acknowledged and kept, or the record gone with its notice. -/
def Obligations.AlarmAckAnswersByRecord : Prop :=
  ∀ (tag : Byte) (f : AckFields) (code : AlarmCode) (src : AlarmSource) (r : AlarmRec) (s : State),
    Ready (.alarmAck tag (.fields f)) s →
    (alarmCodeOf f.code = none ∨ alarmSourceOf f.sourceKind f.sourceNumber = none ∨ f.raiseCount = 0 ∨ 255 < f.raiseCount →
      exec (.alarmAck tag (.fields f)) s = .next (refused 29 tag .badField s))
    ∧ (alarmCodeOf f.code = some code → alarmSourceOf f.sourceKind f.sourceNumber = some src → 1 ≤ f.raiseCount →
      f.raiseCount ≤ 255 →
      (findAlarm s code src f.subcode = none →
        exec (.alarmAck tag (.fields f)) s = .next (refused 29 tag .notFound s))
      ∧ (findAlarm s code src f.subcode = some r → r.raiseCount ≠ f.raiseCount →
        exec (.alarmAck tag (.fields f)) s = .next (refuseWith 29 tag .stale (be8 r.raiseCount) (headTaken s)))
      ∧ (findAlarm s code src f.subcode = some r → r.raiseCount = f.raiseCount → r.active = true →
        ∃ t : State, exec (.alarmAck tag (.fields f)) s = .next t
          ∧ findAlarm t code src f.subcode = some (if r.acknowledged = true then r
              else { r with acknowledged := true, lastChange := s.tb.cfc })
          ∧ t = accepted 29 tag (alarmBytes (if r.acknowledged = true then r
              else { r with acknowledged := true, lastChange := s.tb.cfc }) ++ [0]) (s.setTable t.alarms.table)
          ∧ t.alarms.table.length = s.alarms.table.length)
      ∧ (findAlarm s code src f.subcode = some r → r.raiseCount = f.raiseCount → r.active = false →
        ∃ t : State, exec (.alarmAck tag (.fields f)) s = .next t
          ∧ t.alarms.table = s.alarms.table.filter
              (fun q => !(q.code == code && q.source == src && q.subcode == f.subcode))
          ∧ Answered tag ([29] ++ alarmBytes (if r.acknowledged = true then r
              else { r with acknowledged := true, lastChange := s.tb.cfc }) ++ [1]) s t
          ∧ (noticesQueued s.mgmt < 4 → ∃ g ∈ t.mgmt.transmit.getLast?, g.isReply = false ∧ g.frame.kind = 0x42
              ∧ g.frame.payload.head? = some 4)
          ∧ t.slots = s.slots ∧ t.budget = s.budget))

/-- A clear by the record with its code, source and subcode: an ACTIVE record that is not acknowledged becomes CLEARED
with its last-change frame updated and stays, an acknowledged one leaves the table, and a CLEARED or missing one is no
effect. A clear that changes the table hands its ALARM notice, and the relays' conditions are those of the table as it
then stands. A raise moves the record that it finds, or joins the tail of a table with a free place; in a full table it evicts
the oldest CLEARED record, or else the oldest of the lowest severity where its own is higher, and is otherwise not recorded.
A notice that finds its four places taken is dropped, and the next one says so. -/
def Obligations.ClearFollowsRecord : Prop :=
  ∀ (code code' : AlarmCode) (src src' : AlarmSource) (sub sub' : Nat) (r e : AlarmRec) (pre post : List AlarmRec)
    (v : RelayName) (sev : Severity) (s : State),
    (findAlarm s code src sub = none → clearAlarm code src sub s = s)
    ∧ (findAlarm s code src sub = some r → r.active = false → clearAlarm code src sub s = s)
    ∧ (findAlarm s code src sub = some r → r.active = true → r.acknowledged = false →
      findAlarm (clearAlarm code src sub s) code src sub = some { r with active := false, lastChange := s.tb.cfc }
      ∧ (clearAlarm code src sub s).alarms.table.length = s.alarms.table.length
      ∧ (noticesQueued s.mgmt < 4 → (clearAlarm code src sub s).mgmt.transmit = s.mgmt.transmit ++ [⟨false, ⟨0x42, 0,
          [2] ++ alarmBytes { r with active := false, lastChange := s.tb.cfc } ++ beFlag s.alarms.overflow
            ++ beFlag s.mgmt.noticesLost⟩⟩]))
    ∧ (findAlarm s code src sub = some r → r.active = true → r.acknowledged = true →
      findAlarm (clearAlarm code src sub s) code src sub = none
      ∧ (noticesQueued s.mgmt < 4 → (clearAlarm code src sub s).mgmt.transmit = s.mgmt.transmit ++ [⟨false, ⟨0x42, 0,
          [3] ++ alarmBytes { r with active := false, lastChange := s.tb.cfc } ++ beFlag s.alarms.overflow
            ++ beFlag s.mgmt.noticesLost⟩⟩]))
    ∧ (¬(code' = code ∧ src' = src ∧ sub' = sub) →
      findAlarm (clearAlarm code src sub s) code' src' sub' = findAlarm s code' src' sub')
    ∧ relayEnergised (clearAlarm code src sub s).alarms v
        = !relayCondition { s.alarms with table := (clearAlarm code src sub s).alarms.table } v
    ∧ clearAlarm code src sub s = { s with
        alarms := { s.alarms with table := (clearAlarm code src sub s).alarms.table }
        mgmt := (clearAlarm code src sub s).mgmt }
    ∧ (findAlarm s code src sub = some r →
      findAlarm (raiseAlarm code src sub sev s) code src sub = some { r with
          raiseCount := min 255 (r.raiseCount + 1), active := true, acknowledged := false, severity := sev
          lastChange := s.tb.cfc }
      ∧ (raiseAlarm code src sub sev s).alarms.table.length = s.alarms.table.length
      ∧ (¬(code' = code ∧ src' = src ∧ sub' = sub) →
        findAlarm (raiseAlarm code src sub sev s) code' src' sub' = findAlarm s code' src' sub'))
    ∧ (findAlarm s code src sub = none → s.alarms.table.length < 48 →
      (raiseAlarm code src sub sev s).alarms
        = { s.alarms with table := s.alarms.table ++ [⟨code, src, sub, sev, true, false, 1, s.tb.cfc, s.tb.cfc⟩] }
      ∧ (raiseEvent code src sub sev s).alarms
        = { s.alarms with table := s.alarms.table ++ [⟨code, src, sub, sev, false, false, 1, s.tb.cfc, s.tb.cfc⟩] }
      ∧ (noticesQueued s.mgmt < 4 → (raiseAlarm code src sub sev s).mgmt = { s.mgmt with
          transmit := s.mgmt.transmit ++ [⟨false, ⟨0x42, 0,
            [0] ++ alarmBytes ⟨code, src, sub, sev, true, false, 1, s.tb.cfc, s.tb.cfc⟩ ++ beFlag s.alarms.overflow
              ++ beFlag s.mgmt.noticesLost⟩⟩]
          noticesLost := false })
      ∧ (4 ≤ noticesQueued s.mgmt → (raiseAlarm code src sub sev s).mgmt = { s.mgmt with noticesLost := true }))
    ∧ (findAlarm s code src sub = none → s.alarms.table.length = 48 → AlarmsDistinct s →
      (s.alarms.table = pre ++ e :: post →
          (e.active = false ∧ ∀ x ∈ pre, x.active = true)
            ∨ (∀ x ∈ s.alarms.table, x.active = true) ∧ (∀ x ∈ pre, e.severity.code < x.severity.code)
              ∧ (∀ x ∈ post, e.severity.code ≤ x.severity.code) ∧ e.severity.code < sev.code →
        (raiseAlarm code src sub sev s).alarms
          = { s.alarms with table := pre ++ post ++ [⟨code, src, sub, sev, true, false, 1, s.tb.cfc, s.tb.cfc⟩] }
        ∧ (noticesQueued s.mgmt < 3 → (raiseAlarm code src sub sev s).mgmt.transmit = s.mgmt.transmit ++
            [⟨false, ⟨0x42, 0, [5] ++ alarmBytes e ++ beFlag s.alarms.overflow ++ beFlag s.mgmt.noticesLost⟩⟩,
             ⟨false, ⟨0x42, 0, [0] ++ alarmBytes ⟨code, src, sub, sev, true, false, 1, s.tb.cfc, s.tb.cfc⟩
              ++ beFlag s.alarms.overflow ++ [0]⟩⟩]))
      ∧ ((∀ x ∈ s.alarms.table, x.active = true ∧ sev.code ≤ x.severity.code) →
        (raiseAlarm code src sub sev s).alarms = { s.alarms with overflow := true }
        ∧ (raiseEvent code src sub sev s).alarms = { s.alarms with overflow := true }
        ∧ (noticesQueued s.mgmt < 4 → (raiseAlarm code src sub sev s).mgmt.transmit = s.mgmt.transmit ++
            [⟨false, ⟨0x42, 0, [6, byteOf code.number, byteOf src.kindNumber, byteOf src.itemNumber, byteOf sub,
              byteOf sev.code] ++ List.replicate 11 0 ++ [1] ++ beFlag s.mgmt.noticesLost⟩⟩])))

/-- The alarm table keeps its 48 places and never holds two records with the same code, source and subcode, at every
step. -/
def Obligations.AlarmsStayDistinct : Prop :=
  ∀ s t : State, AlarmsDistinct s → step s = .next t → AlarmsDistinct t

/-- RELAY_SET: a mode for SUMMARY, or a byte that names no relay or no mode, is refused with BAD_FIELD; otherwise the
request is ACCEPTED and every mode present is taken, with the conditions evaluated in
the same operation and the reply carrying each relay's mode, condition and drive as they then stand. The records keep
their acknowledged flags, so a change between FOLLOW and LATCH counts or discounts the CLEARED records that are not
acknowledged. That the request is a counted list of pairs, of which the last one given for a relay is taken, and the order of
the reply are the model's choice (log 12). -/
def Obligations.RelaySetTakesModes : Prop :=
  ∀ (tag : Byte) (f : RelayFields) (c mj mn : RelayMode) (v : Severity) (s : State),
    (Ready (.relaySet tag .badByte) s → exec (.relaySet tag .badByte) s = .next (refused 31 tag .badField s))
    ∧ (Ready (.relaySet tag (.fields f)) s → (∃ x ∈ f.modes, x.1 = .summary) →
      exec (.relaySet tag (.fields f)) s = .next (refused 31 tag .badField s))
    ∧ (Ready (.relaySet tag (.fields f)) s → (∀ x ∈ f.modes, x.1 ≠ .summary) →
      ((f.modes.filter (·.1 == .critical)).getLast?.map (·.2)).getD s.alarms.criticalMode = c →
      ((f.modes.filter (·.1 == .major)).getLast?.map (·.2)).getD s.alarms.majorMode = mj →
      ((f.modes.filter (·.1 == .minor)).getLast?.map (·.2)).getD s.alarms.minorMode = mn →
      exec (.relaySet tag (.fields f)) s = .next (accepted 31 tag
        ([1, byteOf c.code] ++ beFlag (severityCondition s.alarms.table c .critical)
            ++ beFlag (!severityCondition s.alarms.table c .critical)
          ++ [1, byteOf mj.code] ++ beFlag (severityCondition s.alarms.table mj .major)
            ++ beFlag (!severityCondition s.alarms.table mj .major)
          ++ [1, byteOf mn.code] ++ beFlag (severityCondition s.alarms.table mn .minor)
            ++ beFlag (!severityCondition s.alarms.table mn .minor)
          ++ [0, 0] ++ beFlag (severityCondition s.alarms.table c .critical
              || severityCondition s.alarms.table mj .major || severityCondition s.alarms.table mn .minor)
            ++ beFlag (!(severityCondition s.alarms.table c .critical
              || severityCondition s.alarms.table mj .major || severityCondition s.alarms.table mn .minor)))
        { s with alarms := { s.alarms with criticalMode := c, majorMode := mj, minorMode := mn } }))
    ∧ (severityCondition s.alarms.table .follow v = true ↔ ∃ r ∈ s.alarms.table, r.severity = v ∧ r.active = true)
    ∧ (severityCondition s.alarms.table .latch v = true
        ↔ ∃ r ∈ s.alarms.table, r.severity = v ∧ (r.active = true ∨ r.acknowledged = false))

/-- PATTERN_STAGE stages a pattern that passes every test, its guard clamped or that of the active pattern, in place of
any staged one; a pattern that fails is refused BAD_FIELD, and any pattern is refused WRONG_STATE while a staged one is
due. That the reply carries the target and the frame count behind the pattern is the model's choice (log 12). -/
def Obligations.PatternStageTakesPattern : Prop :=
  ∀ (tag : Byte) (f : PatternFields) (p : Pattern) (target : FrameCount) (s : State),
    Ready (.patternStage tag (.fields f)) s →
    p = ⟨f.number, f.windows.map fun w => ⟨w.1, w.2⟩, (f.guardTime.map (min 16383)).getD s.gates.active.guardTime⟩ →
    target = BitVec.ofNat 32 f.target →
    exec (.patternStage tag (.fields f)) s = .next (
      if patternGood s p target = true then
        if patternDue s = true then refused 26 tag .wrongState s
        else accepted 26 tag (patternBytes p ++ frameBytes target ++ frameBytes s.tb.cfc)
          { s with gates := { s.gates with staged := some (p, target) } }
      else refused 26 tag .badField s)
    ∧ (patternGood s p target = true ↔
        p.number ≤ 255 ∧ p.windows.length ≤ 8 ∧ (∀ w ∈ p.windows, w.start < w.stop ∧ w.stop ≤ 1228800)
        ∧ p.windows.Pairwise (fun a b => a.start < b.start)
        ∧ (∀ k < p.windows.length - 1,
            (p.windows.getD k ⟨0, 0⟩).stop + 2 * p.guardTime < (p.windows.getD (k + 1) ⟨0, 0⟩).start)
        ∧ (∀ a ∈ p.windows.getLast?, ∀ b ∈ p.windows.head?, a.stop + 2 * p.guardTime < b.start + 1228800)
        ∧ (∀ a ∈ s.gates.active.windows.getLast?, ∀ b ∈ p.windows.head?,
            a.stop + (s.gates.active.guardTime + p.guardTime) < b.start + 1228800)
        ∧ 2 ≤ (target - s.tb.cfc).toNat ∧ (target - s.tb.cfc).toNat < 2147483648)

/-! ### The whole part -/

/-- Every change of a slot's state or reason is stamped: whatever the command, a slot that is not in the state in which it
was has the cabinet frame count after the step as its last change, and no other value ever takes the place of an earlier
stamp. But at a full reset and at a RESTART, which have their own rules, every change of a slot's state hands a SLOT notice
of the state as it then stands, and every change of the timing quality or of the selection hands a TIMING notice of the two,
or the loss of a notice is marked. -/
def Obligations.StateChangesAreStamped : Prop :=
  ∀ (s t : State) (n : SlotId), step s = .next t →
    (t.slots[n].state ≠ s.slots[n].state → t.slots[n].lastChange = t.tb.cfc)
    ∧ (t.slots[n].lastChange = s.slots[n].lastChange ∨ t.slots[n].lastChange = t.tb.cfc)
    ∧ ((∀ c ∈ s.pending.head?, c ≠ .restartTakeEffect ∧ ∀ cause strap, c ≠ .fullReset cause strap) →
      (t.slots[n].state ≠ s.slots[n].state →
        t.mgmt.noticesLost = true ∨ ∃ f ∈ t.mgmt.transmit.drop s.mgmt.transmit.length, f.isReply = false
          ∧ f.frame.kind = 0x41 ∧ f.frame.payload.dropLast = be8 (slotNumber n) ++ be8 t.slots[n].state.number
            ++ beOpt be8 1 t.slots[n].state.reason ++ frameBytes t.slots[n].lastChange)
      ∧ (t.tb.quality.number ≠ s.tb.quality.number ∨ t.tb.selected ≠ s.tb.selected →
        t.mgmt.noticesLost = true ∨ ∃ f ∈ t.mgmt.transmit.drop s.mgmt.transmit.length, f.isReply = false
          ∧ f.frame.kind = 0x43 ∧ f.frame.payload.take 3 = be8 t.tb.quality.number
            ++ beOpt (fun r => be8 (refNumber r)) 1 t.tb.selected))

/-- Only the commands that set something change a setting: no event, no read, no slot, route or alarm request and no
RESTART changes an admission policy, a limit, a group, the domain map, the lock, a timing setting, a trim, an input's
settings, a relay mode or the line rate. -/
def Obligations.SettingsChangeOnlyByRequest : Prop :=
  ∀ (c : Instr) (s t : State), isSetting c = false → exec c s = .next t → SettingsKept s t
end

