-- ==== Sys2Proof/Laws/State.lean ====
section
/-! SUPPORT. What each update of one record makes of each field of the state: one lemma per field per update, true by
unfolding. -/

namespace Sys2Proof.Machine

/-! ### setSlot -/

section
variable (s : State) (n : SlotId) (r : SlotRec)

@[simp] theorem State.setSlot_slots : (s.setSlot n r).slots = s.slots.set n r := rfl
@[simp] theorem State.setSlot_sc : (s.setSlot n r).sc = s.sc := rfl
@[simp] theorem State.setSlot_readers : (s.setSlot n r).readers = s.readers := rfl
@[simp] theorem State.setSlot_budget : (s.setSlot n r).budget = s.budget := rfl
@[simp] theorem State.setSlot_routes : (s.setSlot n r).routes = s.routes := rfl
@[simp] theorem State.setSlot_buffer : (s.setSlot n r).buffer = s.buffer := rfl
@[simp] theorem State.setSlot_lanes : (s.setSlot n r).lanes = s.lanes := rfl
@[simp] theorem State.setSlot_creditMessages : (s.setSlot n r).creditMessages = s.creditMessages := rfl
@[simp] theorem State.setSlot_tb : (s.setSlot n r).tb = s.tb := rfl
@[simp] theorem State.setSlot_timing : (s.setSlot n r).timing = s.timing := rfl
@[simp] theorem State.setSlot_pulseHold : (s.setSlot n r).pulseHold = s.pulseHold := rfl
@[simp] theorem State.setSlot_gates : (s.setSlot n r).gates = s.gates := rfl
@[simp] theorem State.setSlot_alarms : (s.setSlot n r).alarms = s.alarms := rfl
@[simp] theorem State.setSlot_mgmt : (s.setSlot n r).mgmt = s.mgmt := rfl
@[simp] theorem State.setSlot_pending : (s.setSlot n r).pending = s.pending := rfl

end

/-! ### updSlot -/

section
variable (s : State) (n : SlotId) (f : SlotRec → SlotRec)

@[simp] theorem State.updSlot_slots : (s.updSlot n f).slots = s.slots.set n (f s.slots[n]) := rfl
@[simp] theorem State.updSlot_sc : (s.updSlot n f).sc = s.sc := rfl
@[simp] theorem State.updSlot_readers : (s.updSlot n f).readers = s.readers := rfl
@[simp] theorem State.updSlot_budget : (s.updSlot n f).budget = s.budget := rfl
@[simp] theorem State.updSlot_routes : (s.updSlot n f).routes = s.routes := rfl
@[simp] theorem State.updSlot_buffer : (s.updSlot n f).buffer = s.buffer := rfl
@[simp] theorem State.updSlot_lanes : (s.updSlot n f).lanes = s.lanes := rfl
@[simp] theorem State.updSlot_creditMessages : (s.updSlot n f).creditMessages = s.creditMessages := rfl
@[simp] theorem State.updSlot_tb : (s.updSlot n f).tb = s.tb := rfl
@[simp] theorem State.updSlot_timing : (s.updSlot n f).timing = s.timing := rfl
@[simp] theorem State.updSlot_pulseHold : (s.updSlot n f).pulseHold = s.pulseHold := rfl
@[simp] theorem State.updSlot_gates : (s.updSlot n f).gates = s.gates := rfl
@[simp] theorem State.updSlot_alarms : (s.updSlot n f).alarms = s.alarms := rfl
@[simp] theorem State.updSlot_mgmt : (s.updSlot n f).mgmt = s.mgmt := rfl
@[simp] theorem State.updSlot_pending : (s.updSlot n f).pending = s.pending := rfl

end

/-! ### setReader -/

section
variable (s : State) (n : SlotId) (r : ReadContext)

@[simp] theorem State.setReader_slots : (s.setReader n r).slots = s.slots := rfl
@[simp] theorem State.setReader_sc : (s.setReader n r).sc = s.sc := rfl
@[simp] theorem State.setReader_readers : (s.setReader n r).readers = s.readers.set n r := rfl
@[simp] theorem State.setReader_budget : (s.setReader n r).budget = s.budget := rfl
@[simp] theorem State.setReader_routes : (s.setReader n r).routes = s.routes := rfl
@[simp] theorem State.setReader_buffer : (s.setReader n r).buffer = s.buffer := rfl
@[simp] theorem State.setReader_lanes : (s.setReader n r).lanes = s.lanes := rfl
@[simp] theorem State.setReader_creditMessages : (s.setReader n r).creditMessages = s.creditMessages := rfl
@[simp] theorem State.setReader_tb : (s.setReader n r).tb = s.tb := rfl
@[simp] theorem State.setReader_timing : (s.setReader n r).timing = s.timing := rfl
@[simp] theorem State.setReader_pulseHold : (s.setReader n r).pulseHold = s.pulseHold := rfl
@[simp] theorem State.setReader_gates : (s.setReader n r).gates = s.gates := rfl
@[simp] theorem State.setReader_alarms : (s.setReader n r).alarms = s.alarms := rfl
@[simp] theorem State.setReader_mgmt : (s.setReader n r).mgmt = s.mgmt := rfl
@[simp] theorem State.setReader_pending : (s.setReader n r).pending = s.pending := rfl

end

/-! ### setLane -/

section
variable (s : State) (n : SlotId) (r : Lane)

@[simp] theorem State.setLane_slots : (s.setLane n r).slots = s.slots := rfl
@[simp] theorem State.setLane_sc : (s.setLane n r).sc = s.sc := rfl
@[simp] theorem State.setLane_readers : (s.setLane n r).readers = s.readers := rfl
@[simp] theorem State.setLane_budget : (s.setLane n r).budget = s.budget := rfl
@[simp] theorem State.setLane_routes : (s.setLane n r).routes = s.routes := rfl
@[simp] theorem State.setLane_buffer : (s.setLane n r).buffer = s.buffer := rfl
@[simp] theorem State.setLane_lanes : (s.setLane n r).lanes = s.lanes.set n r := rfl
@[simp] theorem State.setLane_creditMessages : (s.setLane n r).creditMessages = s.creditMessages := rfl
@[simp] theorem State.setLane_tb : (s.setLane n r).tb = s.tb := rfl
@[simp] theorem State.setLane_timing : (s.setLane n r).timing = s.timing := rfl
@[simp] theorem State.setLane_pulseHold : (s.setLane n r).pulseHold = s.pulseHold := rfl
@[simp] theorem State.setLane_gates : (s.setLane n r).gates = s.gates := rfl
@[simp] theorem State.setLane_alarms : (s.setLane n r).alarms = s.alarms := rfl
@[simp] theorem State.setLane_mgmt : (s.setLane n r).mgmt = s.mgmt := rfl
@[simp] theorem State.setLane_pending : (s.setLane n r).pending = s.pending := rfl

end

/-! ### setTiming -/

section
variable (s : State) (n : SlotId) (r : TimingRec)

@[simp] theorem State.setTiming_slots : (s.setTiming n r).slots = s.slots := rfl
@[simp] theorem State.setTiming_sc : (s.setTiming n r).sc = s.sc := rfl
@[simp] theorem State.setTiming_readers : (s.setTiming n r).readers = s.readers := rfl
@[simp] theorem State.setTiming_budget : (s.setTiming n r).budget = s.budget := rfl
@[simp] theorem State.setTiming_routes : (s.setTiming n r).routes = s.routes := rfl
@[simp] theorem State.setTiming_buffer : (s.setTiming n r).buffer = s.buffer := rfl
@[simp] theorem State.setTiming_lanes : (s.setTiming n r).lanes = s.lanes := rfl
@[simp] theorem State.setTiming_creditMessages : (s.setTiming n r).creditMessages = s.creditMessages := rfl
@[simp] theorem State.setTiming_tb : (s.setTiming n r).tb = s.tb := rfl
@[simp] theorem State.setTiming_timing : (s.setTiming n r).timing = s.timing.set n r := rfl
@[simp] theorem State.setTiming_pulseHold : (s.setTiming n r).pulseHold = s.pulseHold := rfl
@[simp] theorem State.setTiming_gates : (s.setTiming n r).gates = s.gates := rfl
@[simp] theorem State.setTiming_alarms : (s.setTiming n r).alarms = s.alarms := rfl
@[simp] theorem State.setTiming_mgmt : (s.setTiming n r).mgmt = s.mgmt := rfl
@[simp] theorem State.setTiming_pending : (s.setTiming n r).pending = s.pending := rfl

end

/-! ### setGate -/

section
variable (s : State) (n : SlotId) (r : Gate)

@[simp] theorem State.setGate_slots : (s.setGate n r).slots = s.slots := rfl
@[simp] theorem State.setGate_sc : (s.setGate n r).sc = s.sc := rfl
@[simp] theorem State.setGate_readers : (s.setGate n r).readers = s.readers := rfl
@[simp] theorem State.setGate_budget : (s.setGate n r).budget = s.budget := rfl
@[simp] theorem State.setGate_routes : (s.setGate n r).routes = s.routes := rfl
@[simp] theorem State.setGate_buffer : (s.setGate n r).buffer = s.buffer := rfl
@[simp] theorem State.setGate_lanes : (s.setGate n r).lanes = s.lanes := rfl
@[simp] theorem State.setGate_creditMessages : (s.setGate n r).creditMessages = s.creditMessages := rfl
@[simp] theorem State.setGate_tb : (s.setGate n r).tb = s.tb := rfl
@[simp] theorem State.setGate_timing : (s.setGate n r).timing = s.timing := rfl
@[simp] theorem State.setGate_pulseHold : (s.setGate n r).pulseHold = s.pulseHold := rfl
@[simp] theorem State.setGate_gates : (s.setGate n r).gates = { s.gates with slots := s.gates.slots.set n r } := rfl
@[simp] theorem State.setGate_alarms : (s.setGate n r).alarms = s.alarms := rfl
@[simp] theorem State.setGate_mgmt : (s.setGate n r).mgmt = s.mgmt := rfl
@[simp] theorem State.setGate_pending : (s.setGate n r).pending = s.pending := rfl

end

/-! ### setInput -/

section
variable (s : State) (i : InputId) (r : InputRec)

@[simp] theorem State.setInput_slots : (s.setInput i r).slots = s.slots := rfl
@[simp] theorem State.setInput_sc : (s.setInput i r).sc = s.sc := rfl
@[simp] theorem State.setInput_readers : (s.setInput i r).readers = s.readers := rfl
@[simp] theorem State.setInput_budget : (s.setInput i r).budget = s.budget := rfl
@[simp] theorem State.setInput_routes : (s.setInput i r).routes = s.routes := rfl
@[simp] theorem State.setInput_buffer : (s.setInput i r).buffer = s.buffer := rfl
@[simp] theorem State.setInput_lanes : (s.setInput i r).lanes = s.lanes := rfl
@[simp] theorem State.setInput_creditMessages : (s.setInput i r).creditMessages = s.creditMessages := rfl
@[simp] theorem State.setInput_tb : (s.setInput i r).tb = s.tb := rfl
@[simp] theorem State.setInput_timing : (s.setInput i r).timing = s.timing := rfl
@[simp] theorem State.setInput_pulseHold : (s.setInput i r).pulseHold = s.pulseHold := rfl
@[simp] theorem State.setInput_gates : (s.setInput i r).gates = s.gates := rfl
@[simp] theorem State.setInput_alarms : (s.setInput i r).alarms = { s.alarms with inputs := s.alarms.inputs.set i r } := rfl
@[simp] theorem State.setInput_mgmt : (s.setInput i r).mgmt = s.mgmt := rfl
@[simp] theorem State.setInput_pending : (s.setInput i r).pending = s.pending := rfl

end

/-! ### setPort -/

section
variable (s : State) (n : SlotId) (r : Port)

@[simp] theorem State.setPort_slots : (s.setPort n r).slots = s.slots := rfl
@[simp] theorem State.setPort_sc : (s.setPort n r).sc = s.sc := rfl
@[simp] theorem State.setPort_readers : (s.setPort n r).readers = s.readers := rfl
@[simp] theorem State.setPort_budget : (s.setPort n r).budget = s.budget := rfl
@[simp] theorem State.setPort_routes : (s.setPort n r).routes = s.routes := rfl
@[simp] theorem State.setPort_buffer : (s.setPort n r).buffer = { s.buffer with ports := s.buffer.ports.set n r } := rfl
@[simp] theorem State.setPort_lanes : (s.setPort n r).lanes = s.lanes := rfl
@[simp] theorem State.setPort_creditMessages : (s.setPort n r).creditMessages = s.creditMessages := rfl
@[simp] theorem State.setPort_tb : (s.setPort n r).tb = s.tb := rfl
@[simp] theorem State.setPort_timing : (s.setPort n r).timing = s.timing := rfl
@[simp] theorem State.setPort_pulseHold : (s.setPort n r).pulseHold = s.pulseHold := rfl
@[simp] theorem State.setPort_gates : (s.setPort n r).gates = s.gates := rfl
@[simp] theorem State.setPort_alarms : (s.setPort n r).alarms = s.alarms := rfl
@[simp] theorem State.setPort_mgmt : (s.setPort n r).mgmt = s.mgmt := rfl
@[simp] theorem State.setPort_pending : (s.setPort n r).pending = s.pending := rfl

end

/-! ### setCredits -/

section
variable (s : State) (n : SlotId) (r : PerClass Credit)

@[simp] theorem State.setCredits_slots : (s.setCredits n r).slots = s.slots := rfl
@[simp] theorem State.setCredits_sc : (s.setCredits n r).sc = s.sc := rfl
@[simp] theorem State.setCredits_readers : (s.setCredits n r).readers = s.readers := rfl
@[simp] theorem State.setCredits_budget : (s.setCredits n r).budget = s.budget := rfl
@[simp] theorem State.setCredits_routes : (s.setCredits n r).routes = s.routes := rfl
@[simp] theorem State.setCredits_buffer : (s.setCredits n r).buffer = { s.buffer with credits := s.buffer.credits.set n r } := rfl
@[simp] theorem State.setCredits_lanes : (s.setCredits n r).lanes = s.lanes := rfl
@[simp] theorem State.setCredits_creditMessages : (s.setCredits n r).creditMessages = s.creditMessages := rfl
@[simp] theorem State.setCredits_tb : (s.setCredits n r).tb = s.tb := rfl
@[simp] theorem State.setCredits_timing : (s.setCredits n r).timing = s.timing := rfl
@[simp] theorem State.setCredits_pulseHold : (s.setCredits n r).pulseHold = s.pulseHold := rfl
@[simp] theorem State.setCredits_gates : (s.setCredits n r).gates = s.gates := rfl
@[simp] theorem State.setCredits_alarms : (s.setCredits n r).alarms = s.alarms := rfl
@[simp] theorem State.setCredits_mgmt : (s.setCredits n r).mgmt = s.mgmt := rfl
@[simp] theorem State.setCredits_pending : (s.setCredits n r).pending = s.pending := rfl

end

/-! ### setCounters -/

section
variable (s : State) (c : Counters)

@[simp] theorem State.setCounters_slots : (s.setCounters c).slots = s.slots := rfl
@[simp] theorem State.setCounters_sc : (s.setCounters c).sc = s.sc := rfl
@[simp] theorem State.setCounters_readers : (s.setCounters c).readers = s.readers := rfl
@[simp] theorem State.setCounters_budget : (s.setCounters c).budget = s.budget := rfl
@[simp] theorem State.setCounters_routes : (s.setCounters c).routes = s.routes := rfl
@[simp] theorem State.setCounters_buffer : (s.setCounters c).buffer = { s.buffer with counters := c } := rfl
@[simp] theorem State.setCounters_lanes : (s.setCounters c).lanes = s.lanes := rfl
@[simp] theorem State.setCounters_creditMessages : (s.setCounters c).creditMessages = s.creditMessages := rfl
@[simp] theorem State.setCounters_tb : (s.setCounters c).tb = s.tb := rfl
@[simp] theorem State.setCounters_timing : (s.setCounters c).timing = s.timing := rfl
@[simp] theorem State.setCounters_pulseHold : (s.setCounters c).pulseHold = s.pulseHold := rfl
@[simp] theorem State.setCounters_gates : (s.setCounters c).gates = s.gates := rfl
@[simp] theorem State.setCounters_alarms : (s.setCounters c).alarms = s.alarms := rfl
@[simp] theorem State.setCounters_mgmt : (s.setCounters c).mgmt = s.mgmt := rfl
@[simp] theorem State.setCounters_pending : (s.setCounters c).pending = s.pending := rfl

end

/-! ### setBudget -/

section
variable (s : State) (b : Budget)

@[simp] theorem State.setBudget_slots : (s.setBudget b).slots = s.slots := rfl
@[simp] theorem State.setBudget_sc : (s.setBudget b).sc = s.sc := rfl
@[simp] theorem State.setBudget_readers : (s.setBudget b).readers = s.readers := rfl
@[simp] theorem State.setBudget_budget : (s.setBudget b).budget = b := rfl
@[simp] theorem State.setBudget_routes : (s.setBudget b).routes = s.routes := rfl
@[simp] theorem State.setBudget_buffer : (s.setBudget b).buffer = s.buffer := rfl
@[simp] theorem State.setBudget_lanes : (s.setBudget b).lanes = s.lanes := rfl
@[simp] theorem State.setBudget_creditMessages : (s.setBudget b).creditMessages = s.creditMessages := rfl
@[simp] theorem State.setBudget_tb : (s.setBudget b).tb = s.tb := rfl
@[simp] theorem State.setBudget_timing : (s.setBudget b).timing = s.timing := rfl
@[simp] theorem State.setBudget_pulseHold : (s.setBudget b).pulseHold = s.pulseHold := rfl
@[simp] theorem State.setBudget_gates : (s.setBudget b).gates = s.gates := rfl
@[simp] theorem State.setBudget_alarms : (s.setBudget b).alarms = s.alarms := rfl
@[simp] theorem State.setBudget_mgmt : (s.setBudget b).mgmt = s.mgmt := rfl
@[simp] theorem State.setBudget_pending : (s.setBudget b).pending = s.pending := rfl

end

/-! ### setTb -/

section
variable (s : State) (t : Timebase)

@[simp] theorem State.setTb_slots : (s.setTb t).slots = s.slots := rfl
@[simp] theorem State.setTb_sc : (s.setTb t).sc = s.sc := rfl
@[simp] theorem State.setTb_readers : (s.setTb t).readers = s.readers := rfl
@[simp] theorem State.setTb_budget : (s.setTb t).budget = s.budget := rfl
@[simp] theorem State.setTb_routes : (s.setTb t).routes = s.routes := rfl
@[simp] theorem State.setTb_buffer : (s.setTb t).buffer = s.buffer := rfl
@[simp] theorem State.setTb_lanes : (s.setTb t).lanes = s.lanes := rfl
@[simp] theorem State.setTb_creditMessages : (s.setTb t).creditMessages = s.creditMessages := rfl
@[simp] theorem State.setTb_tb : (s.setTb t).tb = t := rfl
@[simp] theorem State.setTb_timing : (s.setTb t).timing = s.timing := rfl
@[simp] theorem State.setTb_pulseHold : (s.setTb t).pulseHold = s.pulseHold := rfl
@[simp] theorem State.setTb_gates : (s.setTb t).gates = s.gates := rfl
@[simp] theorem State.setTb_alarms : (s.setTb t).alarms = s.alarms := rfl
@[simp] theorem State.setTb_mgmt : (s.setTb t).mgmt = s.mgmt := rfl
@[simp] theorem State.setTb_pending : (s.setTb t).pending = s.pending := rfl

end

/-! ### setTable -/

section
variable (s : State) (t : List AlarmRec)

@[simp] theorem State.setTable_slots : (s.setTable t).slots = s.slots := rfl
@[simp] theorem State.setTable_sc : (s.setTable t).sc = s.sc := rfl
@[simp] theorem State.setTable_readers : (s.setTable t).readers = s.readers := rfl
@[simp] theorem State.setTable_budget : (s.setTable t).budget = s.budget := rfl
@[simp] theorem State.setTable_routes : (s.setTable t).routes = s.routes := rfl
@[simp] theorem State.setTable_buffer : (s.setTable t).buffer = s.buffer := rfl
@[simp] theorem State.setTable_lanes : (s.setTable t).lanes = s.lanes := rfl
@[simp] theorem State.setTable_creditMessages : (s.setTable t).creditMessages = s.creditMessages := rfl
@[simp] theorem State.setTable_tb : (s.setTable t).tb = s.tb := rfl
@[simp] theorem State.setTable_timing : (s.setTable t).timing = s.timing := rfl
@[simp] theorem State.setTable_pulseHold : (s.setTable t).pulseHold = s.pulseHold := rfl
@[simp] theorem State.setTable_gates : (s.setTable t).gates = s.gates := rfl
@[simp] theorem State.setTable_alarms : (s.setTable t).alarms = { s.alarms with table := t } := rfl
@[simp] theorem State.setTable_mgmt : (s.setTable t).mgmt = s.mgmt := rfl
@[simp] theorem State.setTable_pending : (s.setTable t).pending = s.pending := rfl

end

/-! ### setRoutes -/

section
variable (s : State) (r : Routes)

@[simp] theorem State.setRoutes_slots : (s.setRoutes r).slots = s.slots := rfl
@[simp] theorem State.setRoutes_sc : (s.setRoutes r).sc = s.sc := rfl
@[simp] theorem State.setRoutes_readers : (s.setRoutes r).readers = s.readers := rfl
@[simp] theorem State.setRoutes_budget : (s.setRoutes r).budget = s.budget := rfl
@[simp] theorem State.setRoutes_routes : (s.setRoutes r).routes = r := rfl
@[simp] theorem State.setRoutes_buffer : (s.setRoutes r).buffer = s.buffer := rfl
@[simp] theorem State.setRoutes_lanes : (s.setRoutes r).lanes = s.lanes := rfl
@[simp] theorem State.setRoutes_creditMessages : (s.setRoutes r).creditMessages = s.creditMessages := rfl
@[simp] theorem State.setRoutes_tb : (s.setRoutes r).tb = s.tb := rfl
@[simp] theorem State.setRoutes_timing : (s.setRoutes r).timing = s.timing := rfl
@[simp] theorem State.setRoutes_pulseHold : (s.setRoutes r).pulseHold = s.pulseHold := rfl
@[simp] theorem State.setRoutes_gates : (s.setRoutes r).gates = s.gates := rfl
@[simp] theorem State.setRoutes_alarms : (s.setRoutes r).alarms = s.alarms := rfl
@[simp] theorem State.setRoutes_mgmt : (s.setRoutes r).mgmt = s.mgmt := rfl
@[simp] theorem State.setRoutes_pending : (s.setRoutes r).pending = s.pending := rfl

end

/-! ### setEntries -/

section
variable (s : State) (t : List Entry)

@[simp] theorem State.setEntries_slots : (s.setEntries t).slots = s.slots := rfl
@[simp] theorem State.setEntries_sc : (s.setEntries t).sc = s.sc := rfl
@[simp] theorem State.setEntries_readers : (s.setEntries t).readers = s.readers := rfl
@[simp] theorem State.setEntries_budget : (s.setEntries t).budget = s.budget := rfl
@[simp] theorem State.setEntries_routes : (s.setEntries t).routes = { s.routes with table := t } := rfl
@[simp] theorem State.setEntries_buffer : (s.setEntries t).buffer = s.buffer := rfl
@[simp] theorem State.setEntries_lanes : (s.setEntries t).lanes = s.lanes := rfl
@[simp] theorem State.setEntries_creditMessages : (s.setEntries t).creditMessages = s.creditMessages := rfl
@[simp] theorem State.setEntries_tb : (s.setEntries t).tb = s.tb := rfl
@[simp] theorem State.setEntries_timing : (s.setEntries t).timing = s.timing := rfl
@[simp] theorem State.setEntries_pulseHold : (s.setEntries t).pulseHold = s.pulseHold := rfl
@[simp] theorem State.setEntries_gates : (s.setEntries t).gates = s.gates := rfl
@[simp] theorem State.setEntries_alarms : (s.setEntries t).alarms = s.alarms := rfl
@[simp] theorem State.setEntries_mgmt : (s.setEntries t).mgmt = s.mgmt := rfl
@[simp] theorem State.setEntries_pending : (s.setEntries t).pending = s.pending := rfl

end

/-! ### setReports -/

section
variable (s : State) (n : SlotId) (l : List (Nat × Severity))

@[simp] theorem State.setReports_slots : (s.setReports n l).slots = s.slots := rfl
@[simp] theorem State.setReports_sc : (s.setReports n l).sc = s.sc := rfl
@[simp] theorem State.setReports_readers : (s.setReports n l).readers = s.readers := rfl
@[simp] theorem State.setReports_budget : (s.setReports n l).budget = s.budget := rfl
@[simp] theorem State.setReports_routes : (s.setReports n l).routes = { s.routes with reports := s.routes.reports.set n l } := rfl
@[simp] theorem State.setReports_buffer : (s.setReports n l).buffer = s.buffer := rfl
@[simp] theorem State.setReports_lanes : (s.setReports n l).lanes = s.lanes := rfl
@[simp] theorem State.setReports_creditMessages : (s.setReports n l).creditMessages = s.creditMessages := rfl
@[simp] theorem State.setReports_tb : (s.setReports n l).tb = s.tb := rfl
@[simp] theorem State.setReports_timing : (s.setReports n l).timing = s.timing := rfl
@[simp] theorem State.setReports_pulseHold : (s.setReports n l).pulseHold = s.pulseHold := rfl
@[simp] theorem State.setReports_gates : (s.setReports n l).gates = s.gates := rfl
@[simp] theorem State.setReports_alarms : (s.setReports n l).alarms = s.alarms := rfl
@[simp] theorem State.setReports_mgmt : (s.setReports n l).mgmt = s.mgmt := rfl
@[simp] theorem State.setReports_pending : (s.setReports n l).pending = s.pending := rfl

end

/-! ### setReceiver -/

section
variable (s : State) (r : Receiver)

@[simp] theorem State.setReceiver_slots : (s.setReceiver r).slots = s.slots := rfl
@[simp] theorem State.setReceiver_sc : (s.setReceiver r).sc = s.sc := rfl
@[simp] theorem State.setReceiver_readers : (s.setReceiver r).readers = s.readers := rfl
@[simp] theorem State.setReceiver_budget : (s.setReceiver r).budget = s.budget := rfl
@[simp] theorem State.setReceiver_routes : (s.setReceiver r).routes = s.routes := rfl
@[simp] theorem State.setReceiver_buffer : (s.setReceiver r).buffer = s.buffer := rfl
@[simp] theorem State.setReceiver_lanes : (s.setReceiver r).lanes = s.lanes := rfl
@[simp] theorem State.setReceiver_creditMessages : (s.setReceiver r).creditMessages = s.creditMessages := rfl
@[simp] theorem State.setReceiver_tb : (s.setReceiver r).tb = s.tb := rfl
@[simp] theorem State.setReceiver_timing : (s.setReceiver r).timing = s.timing := rfl
@[simp] theorem State.setReceiver_pulseHold : (s.setReceiver r).pulseHold = s.pulseHold := rfl
@[simp] theorem State.setReceiver_gates : (s.setReceiver r).gates = s.gates := rfl
@[simp] theorem State.setReceiver_alarms : (s.setReceiver r).alarms = s.alarms := rfl
@[simp] theorem State.setReceiver_mgmt : (s.setReceiver r).mgmt = { s.mgmt with receiver := r } := rfl
@[simp] theorem State.setReceiver_pending : (s.setReceiver r).pending = s.pending := rfl

end

/-! ### Replies -/

section
variable (tag : Byte) (payload : List Byte) (s : State)

@[simp] theorem placeReply_slots : (placeReply tag payload s).slots = s.slots := rfl
@[simp] theorem placeReply_sc : (placeReply tag payload s).sc = s.sc := rfl
@[simp] theorem placeReply_readers : (placeReply tag payload s).readers = s.readers := rfl
@[simp] theorem placeReply_budget : (placeReply tag payload s).budget = s.budget := rfl
@[simp] theorem placeReply_routes : (placeReply tag payload s).routes = s.routes := rfl
@[simp] theorem placeReply_buffer : (placeReply tag payload s).buffer = s.buffer := rfl
@[simp] theorem placeReply_lanes : (placeReply tag payload s).lanes = s.lanes := rfl
@[simp] theorem placeReply_creditMessages : (placeReply tag payload s).creditMessages = s.creditMessages := rfl
@[simp] theorem placeReply_tb : (placeReply tag payload s).tb = s.tb := rfl
@[simp] theorem placeReply_timing : (placeReply tag payload s).timing = s.timing := rfl
@[simp] theorem placeReply_pulseHold : (placeReply tag payload s).pulseHold = s.pulseHold := rfl
@[simp] theorem placeReply_gates : (placeReply tag payload s).gates = s.gates := rfl
@[simp] theorem placeReply_alarms : (placeReply tag payload s).alarms = s.alarms := rfl
@[simp] theorem placeReply_pending : (placeReply tag payload s).pending = s.pending := rfl
@[simp] theorem placeReply_mgmt : (placeReply tag payload s).mgmt =
    { s.mgmt with transmit := s.mgmt.transmit ++ [⟨true, ⟨kindReply, tag, payload⟩⟩] } := rfl

end

end Sys2Proof.Machine
end

