-- ==== Sys2Proof/Laws/Ops.lean ====
section
/-! SUPPORT. What the shared operations of Machine/Ops.lean can do, each said once: replies and notices, taking a request, an
operation on each slot in turn, and a map over a vector. -/

namespace Sys2Proof.Machine

/-! ### Vectors and slots -/

theorem mem_allSlots (n : SlotId) : n ∈ allSlots := by decide +revert

/-- A map over a vector maps each entry. -/
@[simp] theorem mapEach_getElem {α β : Type} {k : Nat} (f : α → β) (v : Vector α k) (i : Nat) (h : i < k) :
    (mapEach f v)[i] = f v[i] := by
  simp [mapEach]

@[simp] theorem eachSlot_nil (f : SlotId → State → State) (s : State) : eachSlot f [] s = s := rfl
@[simp] theorem eachSlot_cons (f : SlotId → State → State) (n : SlotId) (r : List SlotId) (s : State) :
    eachSlot f (n :: r) s = eachSlot f r (f n s) := rfl

/-- What holds and is kept by the operation on each slot holds after all of them. -/
theorem eachSlot_keeps {P : State → Prop} {f : SlotId → State → State} (hf : ∀ n s, P s → P (f n s)) :
    ∀ (l : List SlotId) (s : State), P s → P (eachSlot f l s) := by
  intro l
  induction l with
  | nil => exact fun _ h => h
  | cons n r ih => exact fun s h => ih (f n s) (hf n s h)
/-- A part of the state that no slot's operation changes is unchanged by all of them. -/
theorem eachSlot_same {α : Type} (g : State → α) {f : SlotId → State → State} (hf : ∀ n s, g (f n s) = g s)
    (l : List SlotId) (s : State) : g (eachSlot f l s) = g s :=
  eachSlot_keeps (P := fun t => g t = g s) (fun n t h => (hf n t).trans h) l s rfl

/-! ### Replies -/

theorem accept_eq (kind : Nat) (tag : Byte) (data : List Byte) (s : State) :
    accept kind tag data s = placeReply tag (be8 (kind % 128) ++ data) s := rfl
theorem refuse_eq (kind : Nat) (tag : Byte) (r : Reason) (s : State) :
    refuse kind tag r s = placeReply tag (be8 (kind % 128 + 128) ++ be8 r.number ++ []) s := rfl
theorem repliesQueued_placeReply (tag : Byte) (p : List Byte) (s : State) :
    repliesQueued (placeReply tag p s).mgmt = repliesQueued s.mgmt + 1 := by
  simp [repliesQueued]
theorem noticesQueued_placeReply (tag : Byte) (p : List Byte) (s : State) :
    noticesQueued (placeReply tag p s).mgmt = noticesQueued s.mgmt := by
  simp [noticesQueued]

/-! ### Notices -/

/-- Only notices were handed between two states: they join the tail of the transmit queue, and never more than its four
notice places hold (R173, R174). -/
def NoticeStep (s t : State) : Prop :=
  ∃ (l : List TxFrame) (b : Bool), (∀ f ∈ l, f.isReply = false) ∧ (l = [] ∨ noticesQueued s.mgmt + l.length ≤ 4)
    ∧ t = { s with mgmt := { s.mgmt with transmit := s.mgmt.transmit ++ l, noticesLost := b } }

theorem noticesQueued_append (m : Mgmt) (l : List TxFrame) (b : Bool) (h : ∀ f ∈ l, f.isReply = false) :
    noticesQueued { m with transmit := m.transmit ++ l, noticesLost := b } = noticesQueued m + l.length := by
  have : l.filter (fun f => !f.isReply) = l := List.filter_eq_self.2 fun f hf => by simp [h f hf]
  simp [noticesQueued, this]
theorem repliesQueued_append (m : Mgmt) (l : List TxFrame) (b : Bool) (h : ∀ f ∈ l, f.isReply = false) :
    repliesQueued { m with transmit := m.transmit ++ l, noticesLost := b } = repliesQueued m := by
  have : l.filter (·.isReply) = [] := List.filter_eq_nil_iff.2 fun f hf => by simp [h f hf]
  simp [repliesQueued, this]

theorem NoticeStep.refl (s : State) : NoticeStep s s := ⟨[], s.mgmt.noticesLost, by simp, .inl rfl, by simp⟩
theorem NoticeStep.trans {s t u : State} (h : NoticeStep s t) (k : NoticeStep t u) : NoticeStep s u := by
  obtain ⟨l, b, hl, hn, rfl⟩ := h
  obtain ⟨l', b', hl', hn', rfl⟩ := k
  have q := noticesQueued_append s.mgmt l b hl
  refine ⟨l ++ l', b', fun f hf => ?_, ?_, by simp⟩
  · rcases List.mem_append.1 hf with h | h
    · exact hl f h
    · exact hl' f h
  · rcases hn' with rfl | hn'
    · simpa using hn
    · right
      have hn'' : noticesQueued { s.mgmt with transmit := s.mgmt.transmit ++ l, noticesLost := b } + l'.length ≤ 4 := hn'
      rw [q] at hn''
      simp only [List.length_append]
      omega
/-- A handed notice joins the queue where a place is free and is dropped otherwise. -/
theorem handNotice_step (kind : Byte) (p : List Byte) (s : State) : NoticeStep s (handNotice kind p s) := by
  unfold handNotice
  split
  · exact ⟨[_], false, by simp, .inr (by simp; omega), rfl⟩
  · exact ⟨[], true, by simp, .inl rfl, by simp⟩
theorem slotNotice_step (n : SlotId) (s : State) : NoticeStep s (slotNotice n s) := handNotice_step _ _ s
theorem timingNotice_step (s : State) : NoticeStep s (timingNotice s) := handNotice_step _ _ s

/-! ### Taking a request -/

/-- A request that is ready is taken, and the head of the queue is gone. -/
theorem takeRequest_ready {c : Instr} {s : State} (h : Ready c s) : takeRequest c s = some (headTaken s) := by
  obtain ⟨h1, h2, h3⟩ := h
  have hn : ¬(s.mgmt.restart ≠ .none ∨ 4 ≤ repliesQueued s.mgmt) := by simp [h1, h2]
  unfold takeRequest
  rw [if_neg hn]
  match hq : s.mgmt.requests with
  | [] => simp only [headTaken, hq, List.tail_nil]; rw [← hq]
  | f :: r =>
    have : parseRequest f = c := h3 f (by simp [hq])
    simp [headTaken, hq, this]
/-- A request that is not ready is not taken. -/
theorem takeRequest_blocked {c : Instr} {s : State} (h : ¬Ready c s) : takeRequest c s = none := by
  unfold takeRequest
  split
  · rfl
  · rename_i hn
    simp only [ne_eq, not_or, not_le, not_not] at hn
    split
    · rename_i hq
      exact absurd ⟨hn.1, hn.2, by simp [hq]⟩ h
    · rename_i f r hq
      split
      · rename_i hp
        exact absurd ⟨hn.1, hn.2, by simp [hq, hp]⟩ h
      · rfl

section
variable {α : Type} {c : Instr} {s : State} (kind : Nat) (tag : Byte) (owner : α → State → State)
/-- A ready request with fields is handed to its owner. -/
theorem runRequest_fields (h : Ready c s) (f : α) :
    runRequest c kind tag (.fields f) owner s = .next (owner f (headTaken s)) := by
  simp only [runRequest, takeRequest_ready h]
/-- A ready request with a malformed payload is refused MALFORMED. -/
theorem runRequest_malformed (h : Ready c s) :
    runRequest c kind tag .malformed owner s = .next (refused kind tag .malformed s) := by
  simp only [runRequest, takeRequest_ready h]
/-- A ready request with a byte out of range is refused BAD_FIELD. -/
theorem runRequest_badByte (h : Ready c s) :
    runRequest c kind tag .badByte owner s = .next (refused kind tag .badField s) := by
  simp only [runRequest, takeRequest_ready h]
/-- A request that is not ready waits. -/
theorem runRequest_blocked (body : Body α) (h : ¬Ready c s) : runRequest c kind tag body owner s = .next s := by
  simp only [runRequest, takeRequest_blocked h]
/-- Everything a request can come to. -/
theorem runRequest_cases (body : Body α) : runRequest c kind tag body owner s = .next s ∧ ¬Ready c s
    ∨ Ready c s ∧ ((∃ f, body = .fields f ∧ runRequest c kind tag body owner s = .next (owner f (headTaken s)))
      ∨ body = .malformed ∧ runRequest c kind tag body owner s = .next (refused kind tag .malformed s)
      ∨ body = .badByte ∧ runRequest c kind tag body owner s = .next (refused kind tag .badField s)) := by
  by_cases h : Ready c s
  · refine .inr ⟨h, ?_⟩
    match body with
    | .fields f => exact .inl ⟨f, rfl, runRequest_fields kind tag owner h f⟩
    | .malformed => exact .inr (.inl ⟨rfl, runRequest_malformed kind tag owner h⟩)
    | .badByte => exact .inr (.inr ⟨rfl, runRequest_badByte kind tag owner h⟩)
  · exact .inl ⟨runRequest_blocked kind tag owner body h, h⟩
end

/-- A slot number in range names its slot. -/
theorem withSlot_some {k : Nat} {n : SlotId} (h : slotOf k = some n) (kind : Nat) (tag : Byte)
    (owner : SlotId → State → State) (s : State) : withSlot kind tag k owner s = owner n s := by
  simp only [withSlot, h]
/-- A slot number out of range is refused BAD_FIELD. -/
theorem withSlot_none {k : Nat} (h : slotOf k = none) (kind : Nat) (tag : Byte) (owner : SlotId → State → State)
    (s : State) : withSlot kind tag k owner s = refuse kind tag .badField s := by
  simp only [withSlot, h]
@[simp] theorem slotOf_slotNumber (n : SlotId) : slotOf (slotNumber n) = some n := by decide +revert
@[simp] theorem inputOf_inputNumber (i : InputId) : inputOf (inputNumber i) = some i := by decide +revert

/-- Handing SLOT notices again changes the transmit queue and its lost-notices flag only. -/
theorem handSlotNotices_frame (l : List TxFrame) (s : State) :
    ∃ m : Mgmt, handSlotNotices l s = { s with mgmt := m } := by
  induction l generalizing s with
  | nil => exact ⟨s.mgmt, rfl⟩
  | cons f r ih =>
    obtain ⟨m, hm⟩ : ∃ m : Mgmt, (if f.frame.kind = kindSlotNotice then
        handNotice kindSlotNotice f.frame.payload.dropLast s else s) = { s with mgmt := m } := by
      split
      · unfold handNotice
        split <;> exact ⟨_, rfl⟩
      · exact ⟨s.mgmt, rfl⟩
    obtain ⟨m', hm'⟩ := ih { s with mgmt := m }
    exact ⟨m', by rw [handSlotNotices, hm, hm']⟩

end Sys2Proof.Machine
end

