-- ==== Sys2Proof/Laws/Alarms.lean ====
section
/-! SUPPORT. What a raise and a clear can do (R157 to R161, R165): they change the alarm table, the overflow flag and the
transmit queue's notices and nothing else, and they keep the table without repeats. -/

namespace Sys2Proof.Machine

/-- Only the alarm table, the overflow flag and notices changed between two states. -/
def AlarmStep (s t : State) : Prop :=
  ∃ (table : List AlarmRec) (o : Bool),
    NoticeStep { s with alarms := { s.alarms with table := table, overflow := o } } t

theorem NoticeStep.alarm {s t : State} (h : NoticeStep s t) : AlarmStep s t := ⟨s.alarms.table, s.alarms.overflow, h⟩
theorem AlarmStep.refl (s : State) : AlarmStep s s := (NoticeStep.refl s).alarm
theorem AlarmStep.trans {s t u : State} (h : AlarmStep s t) (k : AlarmStep t u) : AlarmStep s u := by
  obtain ⟨ta, o, l, b, hl, hn, rfl⟩ := h
  obtain ⟨ta', o', k⟩ := k
  refine ⟨ta', o', NoticeStep.trans ⟨l, b, hl, hn, rfl⟩ k⟩
theorem setTable_step (s : State) (t : List AlarmRec) : AlarmStep s (s.setTable t) :=
  ⟨t, s.alarms.overflow, NoticeStep.refl _⟩
theorem alarmNotice_step (c : AlarmChange) (r : AlarmRec) (s : State) : NoticeStep s (alarmNotice c r s) :=
  handNotice_step _ _ s
theorem notRecordedNotice_step (code : AlarmCode) (src : AlarmSource) (sub : Nat) (v : Severity) (s : State) :
    NoticeStep s (notRecordedNotice code src sub v s) := handNotice_step _ _ s
/-- A notice leaves everything but the Management Port unchanged. -/
theorem alarmNotice_alarms (c : AlarmChange) (r : AlarmRec) (s : State) : (alarmNotice c r s).alarms = s.alarms := by
  obtain ⟨l, b, -, -, h⟩ := alarmNotice_step c r s
  rw [h]
theorem notRecordedNotice_alarms (code : AlarmCode) (src : AlarmSource) (sub : Nat) (v : Severity) (s : State) :
    (notRecordedNotice code src sub v s).alarms = s.alarms := by
  obtain ⟨l, b, -, -, h⟩ := notRecordedNotice_step code src sub v s
  rw [h]

section
variable (code : AlarmCode) (src : AlarmSource) (sub : Nat) (v : Severity) (s : State)

theorem raiseRecord_step : AlarmStep s (raiseRecord code src sub v s).2 := by
  unfold raiseRecord
  split
  · exact setTable_step s _
  · dsimp only
    split
    · exact setTable_step s _
    · split
      · exact (setTable_step s _).trans (alarmNotice_step _ _ _).alarm
      · exact ⟨s.alarms.table, true, NoticeStep.refl _⟩
/-- A raise of a condition alarm changes the alarm table, the overflow flag and the notices only. -/
theorem raiseAlarm_step : AlarmStep s (raiseAlarm code src sub v s) := by
  have h := raiseRecord_step code src sub v s
  unfold raiseAlarm
  match hr : raiseRecord code src sub v s with
  | (some r, t) => rw [hr] at h; exact h.trans (alarmNotice_step _ _ _).alarm
  | (none, t) => rw [hr] at h; exact h.trans (notRecordedNotice_step _ _ _ _ _).alarm
/-- A raise of an event alarm changes the alarm table, the overflow flag and the notices only. -/
theorem raiseEvent_step : AlarmStep s (raiseEvent code src sub v s) := by
  have h := raiseRecord_step code src sub v s
  unfold raiseEvent
  match hr : raiseRecord code src sub v s with
  | (some r, t) =>
    rw [hr] at h
    exact (h.trans (setTable_step _ _)).trans (alarmNotice_step _ _ _).alarm
  | (none, t) => rw [hr] at h; exact h.trans (notRecordedNotice_step _ _ _ _ _).alarm
/-- A clear changes the alarm table and the notices only. -/
theorem clearAlarm_step : AlarmStep s (clearAlarm code src sub s) := by
  unfold clearAlarm
  split
  · exact AlarmStep.refl s
  · split
    · dsimp only
      split
      · exact (setTable_step _ _).trans (alarmNotice_step _ _ _).alarm
      · exact (setTable_step _ _).trans (alarmNotice_step _ _ _).alarm
    · exact AlarmStep.refl s
end

/-! ### The table stays without repeats (R158) -/

/-- Two records have different triples. -/
def Apart (a b : AlarmRec) : Prop := ¬(a.code = b.code ∧ a.source = b.source ∧ a.subcode = b.subcode)
/-- A table without repeats that fits its places. -/
def TableGood (t : List AlarmRec) : Prop := t.length ≤ 48 ∧ t.Pairwise Apart

theorem isTriple_iff (r : AlarmRec) (code : AlarmCode) (src : AlarmSource) (sub : Nat) :
    r.isTriple code src sub = true ↔ r.code = code ∧ r.source = src ∧ r.subcode = sub := by
  simp [AlarmRec.isTriple, and_assoc]
/-- Changing a record without its triple keeps the table good. -/
theorem TableGood.map {t : List AlarmRec} (h : TableGood t) (f : AlarmRec → AlarmRec)
    (hf : ∀ r ∈ t, (f r).code = r.code ∧ (f r).source = r.source ∧ (f r).subcode = r.subcode) :
    TableGood (t.map f) := by
  refine ⟨by simpa using h.1, List.pairwise_map.2 (h.2.imp_of_mem fun {a b} ha hb hab => ?_)⟩
  obtain ⟨a1, a2, a3⟩ := hf a ha
  obtain ⟨b1, b2, b3⟩ := hf b hb
  simpa [Apart, a1, a2, a3, b1, b2, b3] using hab
theorem TableGood.mapAlarm {t : List AlarmRec} (h : TableGood t) (code : AlarmCode) (src : AlarmSource) (sub : Nat)
    (f : AlarmRec → AlarmRec)
    (hf : ∀ r ∈ t, r.isTriple code src sub = true → (f r).code = r.code ∧ (f r).source = r.source ∧ (f r).subcode = r.subcode) :
    TableGood (mapAlarm t code src sub f) := by
  refine h.map _ fun r hr => ?_
  split
  · exact hf r hr ‹_›
  · exact ⟨rfl, rfl, rfl⟩
theorem TableGood.filter {t : List AlarmRec} (h : TableGood t) (p : AlarmRec → Bool) : TableGood (t.filter p) :=
  ⟨(List.length_filter_le _ _).trans h.1, h.2.filter _⟩
/-- A record whose triple no record has may join the tail of a table with room. -/
theorem TableGood.append {t : List AlarmRec} (h : TableGood t) (r : AlarmRec) (hl : t.length < 48)
    (hr : ∀ q ∈ t, Apart q r) : TableGood (t ++ [r]) :=
  ⟨by simp; omega, List.pairwise_append.2 ⟨h.2, List.pairwise_singleton _ _, by simpa using hr⟩⟩
theorem findAlarm_none {s : State} {code : AlarmCode} {src : AlarmSource} {sub : Nat}
    (h : findAlarm s code src sub = none) : ∀ q ∈ s.alarms.table, ¬(q.code = code ∧ q.source = src ∧ q.subcode = sub) := by
  intro q hq hk
  exact absurd ((isTriple_iff q code src sub).2 hk) (by simpa using List.find?_eq_none.1 h q hq)
theorem findAlarm_some {s : State} {code : AlarmCode} {src : AlarmSource} {sub : Nat} {r : AlarmRec}
    (h : findAlarm s code src sub = some r) :
    r ∈ s.alarms.table ∧ r.code = code ∧ r.source = src ∧ r.subcode = sub := by
  have h' : s.alarms.table.find? (fun q : AlarmRec => q.isTriple code src sub) = some r := h
  have hk := List.find?_some h'
  exact ⟨List.mem_of_find?_eq_some h', (isTriple_iff r code src sub).1 hk⟩
theorem victim_mem {t : List AlarmRec} {v : Severity} {e : AlarmRec} (h : victim t v = some e) : e ∈ t := by
  unfold victim at h
  split at h
  · rename_i r hr
    cases h
    exact List.mem_of_find?_eq_some hr
  · split at h
    · rename_i r hr
      split at h
      · cases h
        exact List.mem_of_find?_eq_some hr
      · cases h
    · cases h
theorem dropAlarm_length {t : List AlarmRec} {e : AlarmRec} (he : e ∈ t) :
    (dropAlarm t e.code e.source e.subcode).length < t.length :=
  List.length_filter_lt_length_iff_exists.2 ⟨e, he, by simp [AlarmRec.isTriple]⟩

section
variable (code : AlarmCode) (src : AlarmSource) (sub : Nat) (v : Severity) (s : State)

theorem raiseRecord_good (h : TableGood s.alarms.table) :
    TableGood (raiseRecord code src sub v s).2.alarms.table := by
  unfold raiseRecord
  split
  · exact h.mapAlarm _ _ _ _ fun r _ _ => ⟨rfl, rfl, rfl⟩
  · rename_i hf
    have hap : ∀ q ∈ s.alarms.table, Apart q (AlarmRec.fresh code src sub v s.tb.cfc) := findAlarm_none hf
    dsimp only
    split
    · rename_i hl
      exact h.append _ hl hap
    · split
      · rename_i e he
        rw [alarmNotice_alarms]
        have hd := dropAlarm_length (victim_mem he)
        exact (h.filter _).append _ (lt_of_lt_of_le hd h.1) fun q hq => hap q (List.mem_filter.1 hq).1
      · exact h
theorem raiseAlarm_good (h : TableGood s.alarms.table) : TableGood (raiseAlarm code src sub v s).alarms.table := by
  have := raiseRecord_good code src sub v s h
  unfold raiseAlarm
  match hr : raiseRecord code src sub v s with
  | (some r, t) => rw [hr] at this; rw [alarmNotice_alarms]; exact this
  | (none, t) => rw [hr] at this; rw [notRecordedNotice_alarms]; exact this
theorem raiseEvent_good (h : TableGood s.alarms.table) : TableGood (raiseEvent code src sub v s).alarms.table := by
  have := raiseRecord_good code src sub v s h
  unfold raiseEvent
  match hr : raiseRecord code src sub v s with
  | (some r, t) =>
    rw [hr] at this
    rw [alarmNotice_alarms]
    exact TableGood.mapAlarm this _ _ _ _ fun r _ _ => ⟨rfl, rfl, rfl⟩
  | (none, t) => rw [hr] at this; rw [notRecordedNotice_alarms]; exact this
theorem clearAlarm_good (h : TableGood s.alarms.table) : TableGood (clearAlarm code src sub s).alarms.table := by
  unfold clearAlarm
  split
  · exact h
  · rename_i r hf
    split
    · dsimp only
      split
      · rw [alarmNotice_alarms]
        exact h.filter _
      · rw [alarmNotice_alarms]
        refine h.mapAlarm _ _ _ _ fun q hq hk => ?_
        obtain ⟨k1, k2, k3⟩ := (isTriple_iff q code src sub).1 hk
        obtain ⟨-, r1, r2, r3⟩ := findAlarm_some hf
        exact ⟨r1.trans k1.symm, r2.trans k2.symm, r3.trans k3.symm⟩
    · exact h
end

end Sys2Proof.Machine
end

