-- ==== Sys2Proof/Laws/Frame.lean ====
section
/-! SUPPORT. What a run of the oscillator to an event can do (Machine/Frame.lean), each said once. -/

namespace Sys2Proof.Machine

/-- A run without an event ahead does nothing. -/
theorem runTo_none {target : State → Option Nat} {s : State} (h : periodsAhead target s = none) : runTo target s = s := by
  simp [runTo, runSampled, h]
/-- While every edge filter is settled, a run to an event is the run of the periods up to it. -/
theorem runTo_settled {target : State → Option Nat} {s : State} {k : Nat} (h : edgesSettled s.tb = true)
    (hk : periodsAhead target s = some k) : runTo target s = runPeriods k s := by
  simp [runTo, runSampled, h, hk]
/-- An event before the next period on the sample grid is reached without a sample. -/
theorem runTo_short {target : State → Option Nat} {s : State} {k : Nat} (h : k < periodsToGrid s.tb)
    (hk : periodsAhead target s = some k) : runTo target s = runPeriods k s := by
  simp [runTo, runSampled, h, hk]
theorem runSampled_keeps {P : State → Prop} (target : State → Option Nat) (run : ∀ k s, P s → P (runPeriods k s))
    (sample : ∀ s, P s → P (sampleEdges s)) : ∀ (m : Nat) (s : State), P s → P (runSampled target m s) := by
  intro m
  induction m with
  | zero =>
    intro s h
    rw [runSampled]
    split
    · exact run _ _ h
    · exact h
  | succ m ih =>
    intro s h
    rw [runSampled]
    split
    · split
      · exact run _ _ h
      · dsimp only
        split
        · exact sample _ (run _ _ h)
        · exact ih _ (sample _ (run _ _ h))
    · exact h
/-- What oscillator periods and samples of the edge inputs keep, a run to an event keeps. -/
theorem runTo_keeps {P : State → Prop} (target : State → Option Nat) (run : ∀ k s, P s → P (runPeriods k s))
    (sample : ∀ s, P s → P (sampleEdges s)) {s : State} (h : P s) : P (runTo target s) :=
  runSampled_keeps target run sample 5 s h

/-- The edge filter of one input after another's is set. -/
theorem edgeFilter_setEdgeFilter (tb : Timebase) (f : EdgeFilter) (a b : Ref) :
    edgeFilter (setEdgeFilter tb f a) b = if a = b then f else edgeFilter tb b := by
  cases a <;> cases b <;> simp [edgeFilter, setEdgeFilter, Vector.getElem_set, Fin.val_inj]

end Sys2Proof.Machine
end

