-- ==== Sys2Proof/Laws/Gates.lean ====
section
/-! SUPPORT. An advance over many positions at a gate (R146, R147) is the advance over each position in turn. -/

namespace Sys2Proof.Machine

/-- `k` positions from the slot coordinate `u`, each in turn. -/
def gateSteps (occs : List Placed) (may : Bool) : Nat → Nat → Gate → Gate
  | 0, _, g => g
  | k + 1, u, g => gateSteps occs may k (u + 1) (gateUnit occs may (u + 1) g)

theorem gateSteps_add (occs : List Placed) (may : Bool) :
    ∀ (j k u : Nat) (g : Gate), gateSteps occs may (j + k) u g = gateSteps occs may k (u + j) (gateSteps occs may j u g)
  | 0, k, u, g => by simp [gateSteps]
  | j + 1, k, u, g => by
    rw [show j + 1 + k = (j + k) + 1 by omega, gateSteps, gateSteps_add occs may j k]
    simp [gateSteps, Nat.add_assoc, Nat.add_comm 1 j]

/-- An occurrence acts on a gate at a position. -/
def acts (occs : List Placed) (v : Nat) : Prop := ∃ o ∈ occs, v ∈ o.positions
/-- At a position where no occurrence acts, only the guard hold falls. -/
theorem gateUnit_quiet {occs : List Placed} {v : Nat} (h : ¬acts occs v) (may : Bool) (g : Gate) :
    gateUnit occs may v g = { g with guardHold := g.guardHold - 1 } := by
  have h1 : occs.find? (fun o => o.stop == v) = none := by
    refine List.find?_eq_none.2 fun o ho hv => h ⟨o, ho, ?_⟩
    simp [Placed.positions, ← beq_iff_eq.1 hv]
  have h2 : occs.find? (fun o => o.start == v + o.guardTime) = none := by
    refine List.find?_eq_none.2 fun o ho hv => h ⟨o, ho, ?_⟩
    have := beq_iff_eq.1 hv
    simp only [Placed.positions, if_pos (show o.guardTime ≤ o.start by omega), List.mem_append, List.mem_singleton]
    exact .inl (by omega)
  have h3 : occs.find? (fun o => o.start == v) = none := by
    refine List.find?_eq_none.2 fun o ho hv => h ⟨o, ho, ?_⟩
    simp [Placed.positions, ← beq_iff_eq.1 hv]
  simp only [gateUnit, h1, h2, h3]
/-- Over positions where no occurrence acts, only the guard hold falls. -/
theorem gateSteps_quiet {occs : List Placed} (may : Bool) :
    ∀ (k u : Nat) (g : Gate), (∀ v, u < v → v ≤ u + k → ¬acts occs v) →
      gateSteps occs may k u g = { g with guardHold := g.guardHold - k }
  | 0, u, g, _ => by simp [gateSteps]
  | k + 1, u, g, h => by
    rw [gateSteps, gateUnit_quiet (h (u + 1) (by omega) (by omega)),
      gateSteps_quiet may k (u + 1) _ fun v h1 h2 => h v (by omega) (by omega)]
    simp [Nat.sub_sub, Nat.add_comm]

/-- Through a rising list that holds every position at which an occurrence acts. -/
theorem gateThrough_eq {occs : List Placed} (may : Bool) (last : Nat) :
    ∀ (l : List Nat) (u : Nat) (g : Gate), u ≤ last → l.Pairwise (· < ·) → (∀ v ∈ l, u < v ∧ v ≤ last) →
      (∀ v, u < v → v ≤ last → acts occs v → v ∈ l) →
      gateThrough occs may last l u g = gateSteps occs may (last - u) u g
  | [], u, g, hu, _, _, hall => by
    rw [gateThrough, gateSteps_quiet may _ u g fun v h1 h2 h3 => by simpa using hall v h1 (by omega) h3]
  | v :: r, u, g, hu, hs, hin, hall => by
    have hv := hin v (by simp)
    have hr : ∀ x ∈ r, v < x := (List.pairwise_cons.1 hs).1
    rw [gateThrough, gateThrough_eq may last r v _ hv.2 (List.pairwise_cons.1 hs).2
      (fun x hx => ⟨hr x hx, (hin x (by simp [hx])).2⟩)
      (fun x h1 h2 h3 => by
        rcases List.mem_cons.1 (hall x (by omega) h2 h3) with h | h
        · omega
        · exact h),
      show last - u = (v - u - 1) + (1 + (last - v)) by omega, gateSteps_add, gateSteps_add,
      gateSteps_quiet may (v - u - 1) u g fun x h1 h2 h3 => by
        rcases List.mem_cons.1 (hall x h1 (by omega) h3) with h | h
        · omega
        · have := hr x h
          omega]
    have e1 : u + (v - u - 1) + 1 = v := by omega
    simp only [gateSteps, e1]

theorem mem_insertPosition (x y : Nat) : ∀ l : List Nat, y ∈ insertPosition x l ↔ y = x ∨ y ∈ l
  | [] => by simp [insertPosition]
  | z :: r => by
    unfold insertPosition
    split
    · simp
    · split
      · rename_i h
        simp [h]
      · simp only [List.mem_cons, mem_insertPosition x y r]
        tauto
theorem insertPosition_rising (x : Nat) : ∀ l : List Nat, l.Pairwise (· < ·) → (insertPosition x l).Pairwise (· < ·)
  | [], _ => by simp [insertPosition]
  | z :: r, h => by
    have hz := List.pairwise_cons.1 h
    unfold insertPosition
    split
    · rename_i hx
      refine List.pairwise_cons.2 ⟨fun a ha => ?_, h⟩
      rcases List.mem_cons.1 ha with rfl | ha
      · exact hx
      · exact hx.trans (hz.1 a ha)
    · split
      · exact h
      · refine List.pairwise_cons.2 ⟨fun a ha => ?_, insertPosition_rising x r hz.2⟩
        rcases (mem_insertPosition x a r).1 ha with rfl | ha
        · omega
        · exact hz.1 a ha
theorem foldr_insertPosition (l : List Nat) :
    (l.foldr insertPosition []).Pairwise (· < ·) ∧ ∀ y, y ∈ l.foldr insertPosition [] ↔ y ∈ l := by
  induction l with
  | nil => simp
  | cons x r ih => exact ⟨insertPosition_rising x _ ih.1, fun y => by simp [mem_insertPosition, ih.2]⟩

/-- An advance of `k` positions is `gateUnit` at each position in turn. -/
theorem gateRun_eq (occs : List Placed) (may : Bool) (k u : Nat) (g : Gate) :
    gateRun occs may k u g = gateSteps occs may k u g := by
  have h := foldr_insertPosition ((occs.flatMap Placed.positions).filter fun x => u < x && x ≤ u + k)
  unfold gateRun gatePositions
  rw [gateThrough_eq may (u + k) _ u g (by omega) h.1, show u + k - u = k by omega]
  · intro v hv
    simpa using (List.mem_filter.1 ((h.2 v).1 hv)).2
  · rintro v h1 h2 ⟨o, ho, hv⟩
    exact (h.2 v).2 (List.mem_filter.2 ⟨List.mem_flatMap.2 ⟨o, ho, hv⟩, by simp [h1, h2]⟩)

end Sys2Proof.Machine
end

