-- ==== Sys2Proof/Laws/Power.lean ====
section
/-! SUPPORT. When the Power Budget Unit acts after an operation, and what it then does; what a sending of credit changes. -/

namespace Sys2Proof.Machine

/-- Without an event of R50, R52 or R53 the Power Budget Unit does nothing. -/
theorem withBudget_quiet {f : State → State} {s : State} (hd : drawView (f s) = drawView s)
    (ht : passTriggered s (f s) = false) : withBudget f s = f s := by
  simp [withBudget, hd, ht]
/-- While the latch is SET the Power Budget Unit does nothing (R57). -/
theorem withBudget_latched {f : State → State} {s : State} (h : (f s).budget.latch.isSome = true) :
    withBudget f s = f s := by
  simp [withBudget, h]
/-- While an episode runs, only a change of a draw or of the effective capacity brings an evaluation (R53). -/
theorem withBudget_episode {f : State → State} {s : State} (he : (f s).budget.episode = true)
    (hd : drawView (f s) = drawView s) : withBudget f s = f s := by
  simp [withBudget, he, hd]
/-- All that an operation with the Power Budget Unit's acts can come to: the operation alone, an evaluation of the running
episode, a new episode with its first evaluation, or the budget pass. -/
theorem withBudget_cases (f : State → State) (s : State) :
    withBudget f s = f s
    ∨ ((f s).budget.latch.isSome = false ∧ (f s).budget.episode = true ∧ drawView (f s) ≠ drawView s
        ∧ withBudget f s = evaluate (f s))
    ∨ ((f s).budget.latch.isSome = false ∧ (f s).budget.episode = false ∧ (f s).budget.effective < committed (f s)
        ∧ withBudget f s = evaluate (startEpisode (f s)))
    ∨ ((f s).budget.latch.isSome = false ∧ (f s).budget.episode = false ∧ committed (f s) ≤ (f s).budget.effective
        ∧ passTriggered s (f s) = true ∧ withBudget f s = budgetPass (f s)) := by
  unfold withBudget
  dsimp only
  split
  · exact .inl rfl
  · rename_i hl
    split
    · rename_i he
      split
      · exact .inl rfl
      · rename_i hd
        exact .inr (.inl ⟨by simpa using hl, he, hd, rfl⟩)
    · rename_i he
      split
      · exact .inl rfl
      · split
        · rename_i hx
          exact .inr (.inr (.inl ⟨by simpa using hl, by simpa using he, hx, rfl⟩))
        · rename_i hx
          split
          · rename_i ht
            exact .inr (.inr (.inr ⟨by simpa using hl, by simpa using he, by omega, ht, rfl⟩))
          · exact .inl rfl
/-- A change after which the committed draw exceeds the effective capacity begins an episode (R52). -/
theorem withBudget_starts {f : State → State} {s : State} (hl : (f s).budget.latch.isSome = false)
    (he : (f s).budget.episode = false) (h : (f s).budget.effective < committed (f s)) (hd : drawView (f s) ≠ drawView s) :
    withBudget f s = evaluate (startEpisode (f s)) := by
  simp [withBudget, hl, he, h, hd]
/-- An admission powers the slot or joins it to the queue (R11). -/
theorem admitSlot_cases (n : SlotId) (s : State) :
    (checkAllowed s n = true ∧ admissionPasses s n = true ∧ admitSlot n s = enterPowering n s)
    ∨ ((checkAllowed s n = false ∨ admissionPasses s n = false)
        ∧ admitSlot n s = gotoState n (.awaiting .budget) (joinQueue n s)) := by
  unfold admitSlot
  split
  · rename_i h
    simp only [Bool.and_eq_true] at h
    exact .inl ⟨h.1, h.2, rfl⟩
  · rename_i h
    refine .inr ⟨?_, rfl⟩
    cases hc : checkAllowed s n <;> simp_all

/-! ### Credit messages -/

section
variable (n : SlotId) (s : State)

@[simp] theorem sendCredits_creditMessages :
    (sendCredits n s).creditMessages = s.creditMessages.set n (creditMessagesOf s.buffer.credits[n]) := rfl
@[simp] theorem sendCredits_free : (sendCredits n s).buffer.free = s.buffer.free := rfl
@[simp] theorem sendCredits_stored : (sendCredits n s).buffer.stored = s.buffer.stored := rfl
@[simp] theorem sendCredits_ports : (sendCredits n s).buffer.ports = s.buffer.ports := rfl
@[simp] theorem sendCredits_counters : (sendCredits n s).buffer.counters = s.buffer.counters := rfl
@[simp] theorem sendCredits_slots : (sendCredits n s).slots = s.slots := rfl
@[simp] theorem sendCredits_lanes : (sendCredits n s).lanes = s.lanes := rfl
@[simp] theorem sendCredits_timing : (sendCredits n s).timing = s.timing := rfl
@[simp] theorem sendCredits_budget : (sendCredits n s).budget = s.budget := rfl
@[simp] theorem sendCredits_routes : (sendCredits n s).routes = s.routes := rfl
@[simp] theorem sendCredits_alarms : (sendCredits n s).alarms = s.alarms := rfl
@[simp] theorem sendCredits_mgmt : (sendCredits n s).mgmt = s.mgmt := rfl
@[simp] theorem sendCredits_pending : (sendCredits n s).pending = s.pending := rfl

end

end Sys2Proof.Machine
end

