-- ==== Sys2Proof/Tests/Slice0.lean ====
section
/-! SUPPORT. The model's own tests: ill-formed commands are refused by WellFormed, the spec's check words and worked
examples come out on single steps, request bytes are read as R182 to R184 lay them out, and for each obligation with
hypotheses a witness that meets them. Expected values are the spec's or worked out by hand from its rules. -/

namespace Sys2Proof.Tests

open Sys2Proof Sys2Proof.Machine

set_option Elab.async false

/-- The outcome is a next state of which the test holds. -/
def onNext (o : Out State) (p : State → Bool) : Bool :=
  match o with
  | .next t => p t
  | .fault _ => false
  | .refused _ => false

/-! ### WellFormed refuses what no sender can form -/

theorem test_wf_reset_cause : ¬(Instr.fullReset .restart .baud115200).WellFormed := by decide
theorem test_wf_unknown_kind : ¬(Instr.unknownKindRequest 1 0).WellFormed ∧ ¬(Instr.unknownKindRequest 31 0).WellFormed
    ∧ (Instr.unknownKindRequest 0 0).WellFormed ∧ (Instr.unknownKindRequest 32 0).WellFormed := by decide
theorem test_wf_blocks : ¬(Instr.packetReceptionStart 0 (List.replicate 63 0)).WellFormed
    ∧ ¬(Instr.packetTrailer 0 (List.replicate 65 0) 0).WellFormed
    ∧ ¬(Instr.packetTrailer 0 (List.replicate 1536 0) 0).WellFormed
    ∧ ¬(Instr.mgmtFrameArrival ⟨0, 0, List.replicate 251 0⟩).WellFormed := by decide +kernel
theorem test_wf_bytes : ¬(Instr.slotAdmit 0 (.fields 256)).WellFormed ∧ ¬(Instr.routeClear 0 (.fields 256)).WellFormed
    ∧ ¬(Instr.alarmAck 0 (.fields ⟨256, 0, 0, 0, 0⟩)).WellFormed
    ∧ ¬(Instr.inputSet 0 (.fields ⟨1, none, some 256, none, none⟩)).WellFormed
    ∧ ¬(Instr.routeSet 0 (.fields ⟨256, .unicast, 0, none⟩)).WellFormed
    ∧ ¬(Instr.queueSet 0 (.fields ⟨0, ⟨none, none, none, some 256⟩, ⟨none, none, none, none⟩, none, none⟩)).WellFormed
    := by decide
theorem test_wf_words : ¬(Instr.slotPolicySet 0 (.fields ⟨1, none, none, none, none, none, some 65536⟩)).WellFormed
    ∧ ¬(Instr.budgetSet 0 (.fields ⟨none, none, some 65536⟩)).WellFormed
    ∧ ¬(Instr.trimSet 0 (.fields ⟨1, -32769⟩)).WellFormed ∧ ¬(Instr.trimSet 0 (.fields ⟨1, 32768⟩)).WellFormed
    ∧ ¬(Instr.timingSet 0 (.fields ⟨none, none, none, some 4294967296, none, none⟩)).WellFormed := by decide
theorem test_wf_lists : ¬(Instr.groupSet 0 (.fields ⟨1, List.replicate 249 1⟩)).WellFormed
    ∧ ¬(Instr.domainSet 0 (.fields ⟨List.replicate 125 (1, 1), []⟩)).WellFormed
    ∧ ¬(Instr.timingSet 0 (.fields ⟨some (List.replicate 201 0), none, none, none, none, none⟩)).WellFormed
    ∧ ¬(Instr.patternStage 0 (.fields ⟨0, List.replicate 31 (0, 1), none, 0⟩)).WellFormed
    ∧ ¬(Instr.relaySet 0 (.fields ⟨List.replicate 125 (.major, .latch)⟩)).WellFormed := by decide +kernel

/-! ### Check words (R183, R185, R188) -/

/-- The characters 1 to 9, whose check words R183 and R185 give. -/
def digits : List Byte := [0x31, 0x32, 0x33, 0x34, 0x35, 0x36, 0x37, 0x38, 0x39]
theorem test_crc16 : crc16 digits = 0x29B1 := by decide +kernel
theorem test_crc32 : crc32 digits = 0xFC891918 := by decide +kernel

/-- A block of zeros is written with a check byte of 0; R188's three cases of wrong bits in it. -/
theorem test_check_code_cases :
    syndrome ⟨0x8000000000000000, 0⟩ = 3 ∧ decodeBlock ⟨0x8000000000000000, 0⟩ = .corrected 0
    ∧ syndrome ⟨0, 0x20⟩ = 32 ∧ decodeBlock ⟨0, 0x20⟩ = .corrected 0
    ∧ syndrome ⟨0xC000000000000000, 0⟩ = 6 ∧ decodeBlock ⟨0xC000000000000000, 0⟩ = .uncorrectable := by decide +kernel

/-! ### Requests read from their bytes (R182 to R184) -/

/-- Payload bytes in the order of each request's fields, with presence bytes, two's complement and defects. -/
theorem test_read_requests :
    parseRequest ⟨4, 7, [5]⟩ = .slotAdmit 7 (.fields 5)
    ∧ parseRequest ⟨4, 7, []⟩ = .slotAdmit 7 .malformed
    ∧ parseRequest ⟨3, 1, [2, 1, 0, 1, 7, 1, 1, 1, 50, 0, 0, 1, 0x01, 0x2C]⟩
      = .slotPolicySet 1 (.fields ⟨2, some .auto, some 7, some true, some 50, none, some 300⟩)
    ∧ parseRequest ⟨3, 1, [2, 1, 2, 1, 7, 1, 1, 1, 50, 0, 0, 1, 0x01, 0x2C]⟩ = .slotPolicySet 1 .badByte
    ∧ parseRequest ⟨10, 9, [1, 0x1F, 0x40, 0, 0, 0, 1, 0x00, 0x64]⟩ = .budgetSet 9 (.fields ⟨some 8000, none, some 100⟩)
    ∧ parseRequest ⟨14, 0, [42, 1, 16, 1, 0x0A]⟩ = .routeSet 0 (.fields ⟨42, .group, 16, some ⟨false, true, false, true⟩⟩)
    ∧ parseRequest ⟨18, 0, [1, 4, 2, 1, 1, 3, 1]⟩ = .domainSet 0 (.fields ⟨[(4, 2)], [(1, 3, true)]⟩)
    ∧ parseRequest ⟨25, 0, [12, 0xFF, 0xF4]⟩ = .trimSet 0 (.fields ⟨12, -12⟩)
    ∧ parseRequest ⟨26, 0, [7, 1, 0, 0, 0, 0, 0, 7, 0x80, 0, 0, 0, 0, 0, 0, 1, 0]⟩
      = .patternStage 0 (.fields ⟨7, [(0, 491520)], none, 256⟩)
    ∧ parseRequest ⟨9, 3, [12, 0]⟩ = .identityReadStart 3 (.fields 12)
    ∧ parseRequest ⟨9, 3, [12, 1]⟩ = .identityReadFetch 3 (.fields 12)
    ∧ parseRequest ⟨9, 3, [12, 2]⟩ = .identityReadStart 3 .badByte
    ∧ parseRequest ⟨28, 3, [0, 13]⟩ = .alarmReadTable 3 (.fields 13)
    ∧ parseRequest ⟨0x7F, 3, []⟩ = .unknownKindRequest 0x7F 3 := by decide +kernel

/-- Log 12: the count byte of an absent reference list is read as structure, and its items are not looked at. -/
theorem test_timing_absent_list_keeps_its_count :
    readTiming ([0, 0] ++ List.replicate 15 0) = .fields ⟨none, none, none, none, none, none⟩
    ∧ readTiming ([0, 2, 200, 201] ++ List.replicate 15 0) = .fields ⟨none, none, none, none, none, none⟩
    ∧ readTiming ([0, 2] ++ List.replicate 15 0) = .malformed := by decide +kernel

/-! ### Worked examples of the spec, on single steps -/

/-- Section 6.5: LOCKED on EXT with I 51,200, an edge at position 56 of the frame with CFC 7,300. -/
def steered : State :=
  State.reset.setTb { Timebase.reset with
    osc := 122880000, p := 56, cfc := 7300, integral := 51200, quality := .locked, selected := some .ext
    everSelected := true, refs := [⟨.ext, true, some 0, 0, 0⟩], cableDelay := 11 }
theorem test_steering_case : onNext (exec (.edgeTaken .ext) steered) (fun t =>
    t.tb.lastError == some (37, 7300) && t.tb.integral == 51163 && t.tb.steer == 101734 && t.tb.quality == .locked)
    = true := by decide +kernel
theorem test_steering_loss : onNext (exec (.referenceSilenceExpiry .ext) (steered.setTb { steered.tb with integral := 51163 }))
    (fun t => t.tb.quality == .holdover && t.tb.steer == 102326) = true := by decide +kernel
theorem test_steering_wrap : edgeError (steered.setTb { steered.tb with p := 1228799, cfc := 7399 }) .ext = -20 := by
  decide +kernel
theorem test_steering_clamps : integralAfter 262000 (-1000) = 262144 ∧ steerAfter 262144 (-1000) = 429496
    ∧ holdoverValue 262144 = 429496 := by decide
/-- The first step: the edge at second-position 45,000,000 leaves P 19 and CFC 2,500. -/
theorem test_first_step : onNext (exec (.edgeTaken .ext) (steered.setTb { steered.tb with
      p := 763200, cfc := 2436, integral := 0, quality := .acquiring .free, stepPending := true }))
    (fun t => t.tb.p == 19 && t.tb.cfc == 2500 && !t.tb.stepPending) = true := by decide +kernel

/-- Section 7.5: the eight accepted values. -/
theorem test_median_case : medianData [1228, 1230, 1227, 1252, 1229, 1228, 1231, 1229] = some ⟨1229, 7, 8602⟩
    ∧ delayOf ⟨1229, 7, 8602⟩ 0 = 614 ∧ compensation 614 350 (-12) = 952 ∧ pulsePosition 952 = 1227848 := by
  decide +kernel

/-- The copies that a port chooses, one after the other, and the port left. -/
def choices : Nat → Port → List (TrafficClass × Nat) × Port
  | 0, p => ([], p)
  | k + 1, p =>
    match portChoice p with
    | none => ([], p)
    | some (cls, x, q) => ((cls, x.length) :: (choices k q).1, (choices k q).2)
/-- Section 5.4: B 2, S 6, B 2, S 3, B 5, with the deficits 0 and the turn S, unopened, at the end. -/
theorem test_round_robin : choices 9 { Port.reset with
      queues := ⟨[], [], [⟨1, 6⟩, ⟨2, 3⟩], [⟨3, 2⟩, ⟨4, 2⟩, ⟨5, 5⟩]⟩ }
    = ([(.b, 2), (.s, 6), (.b, 2), (.s, 3), (.b, 5)], Port.reset) := by decide +kernel

/-- A slot record in a state, with a card that is present and latched. -/
def seated (st : SlotState) : SlotRec :=
  { SlotRec.reset with state := st, present := true, presentRaw := true, latchClosed := true, latchRaw := true }
/-- Section 4.9: a cabinet shared by two operators. -/
def shared : State :=
  { State.reset with
    slots := #v[seated .active, seated .active, seated .active, seated .active, seated (.draining .normal), seated .active,
      .reset, .reset, .reset, .reset, .reset, .reset]
    routes := { Routes.reset with
      table := [⟨10, .slot 0, .learned, allPermitted, false⟩, ⟨20, .slot 1, .learned, allPermitted, false⟩,
        ⟨21, .slot 1, .provisioned, ⟨false, true, false, false⟩, true⟩, ⟨30, .slot 2, .learned, allPermitted, false⟩,
        ⟨40, .slot 3, .learned, allPermitted, false⟩, ⟨50, .slot 4, .learned, allPermitted, false⟩,
        ⟨60, .slot 5, .learned, allPermitted, false⟩, ⟨99, .slot 6, .provisioned, allPermitted, false⟩,
        ⟨200, .group 0, .provisioned, allPermitted, false⟩]
      groups := Routes.reset.groups.set 0 [0, 1, 2]
      domains := #v[0, 1, 1, 2, 2, 3, 1, 0, 0, 0, 0, 0] } }
theorem test_lookups :
    lookup shared 1 30 .s 1 [] = .copies [2] 0 ∧ lookup shared 1 40 .c 1 [] = .refused .forbidden 1
    ∧ lookup shared 3 50 .b 1 [] = .refused .retiring 0 ∧ lookup shared 2 21 .b 1 [] = .refused .classBarred 0
    ∧ lookup shared 2 99 .c 1 [] = .refused .noRoute 0 ∧ lookup shared 0 10 .c 1 [] = .refused .noRoute 0
    ∧ lookup shared 1 200 .c 1 [] = .copies [0, 2] 0 ∧ lookup shared 3 200 .c 1 [] = .copies [0] 2
    ∧ lookup shared 5 255 .c 1 [] = .copies [0] 0
    ∧ lookup shared 2 0 .c 1 [0, 3, 1, 1, 0, 0, 7, 2] = .taken (.raise 7 .major) := by decide +kernel

/-- Section 2.9: the radio card's five blocks, laid out as R187 gives them, the first four gathered and the fifth arriving
with the check byte that R188 gives it. -/
def radioBlocks : List (BitVec 64) :=
  [0x15000F061234012C, 0x4142434445464748, 0x494A4B4C015E0064, 0x28292A2B2C2D03FF]
def radioLast : BitVec 64 := 0xFE00000000000000
def radioCard : Identity :=
  ⟨.radio, 0x1234, [0x41, 0x42, 0x43, 0x44, 0x45, 0x46, 0x47, 0x48, 0x49, 0x4A, 0x4B, 0x4C], 300, true, true, 350, 100,
    [40, 41, 42, 43, 44, 45], some 3, some (-2)⟩
theorem test_record_fields : progressOf (radioBlocks.take 1) = .going ∧ progressOf radioBlocks = .going
    ∧ progressOf (radioBlocks ++ [radioLast]) = .valid radioCard
    ∧ decodeAnswer (some ⟨radioLast, 0x8F⟩) = .clean radioLast := by decide +kernel
/-- The read of slot 5 before its last block completes; address 42 is provisioned for the slot. -/
def reading : State :=
  ((State.reset.setSlot 4 (seated .identifying)).setReader 4
    { ReadContext.reset with line := some .admission, nextBlock := 5, blocks := radioBlocks, corrected := some 3 }).setEntries
    [⟨42, .slot 4, .provisioned, allPermitted, false⟩]
theorem test_read_with_correction :
    onNext (exec (.identityBlockCompletion 4 (some ⟨radioLast, 0x8F⟩)) reading) (fun t =>
      t.slots[4].state == .awaiting .approval && t.slots[4].identity == some ⟨radioCard, .corrected, some 3⟩
      && t.readers[4].line == none && t.routes.table.map (fun e => (e.address, e.origin, e.serving))
        == [(40, .learned, false), (41, .learned, false), (42, .provisioned, true), (43, .learned, false),
            (44, .learned, false), (45, .learned, false)]
      && (findAlarm t .idCorrected (.slot 4) 3).isSome) = true := by decide +kernel

/-- R107: the external input shows high before a frame boundary, so its filter passes it on the way and the edge is taken. -/
theorem test_boundary_samples_edges : onNext (exec .frameBoundary (State.reset.setTb { Timebase.reset with
      extFilter := ⟨false, 0, true⟩, refs := [⟨.ext, false, none, 0, 0⟩] })) (fun t =>
    t.tb.cfc == 1 && t.tb.extFilter == ⟨true, 0, true⟩ && t.tb.refs == [⟨.ext, false, some 10, 0, 0⟩]) = true := by
  decide +kernel
/-- R129, R134: a drain start ends the measurement, and its attempt in progress is recorded ABORTED with its counts. -/
theorem test_drain_aborts_attempt : (timingDrainStart 11 (State.reset.setTiming 11 { TimingRec.reset with
      state := .measuring, measuring := some ⟨1, true, 9, [1228, 1229], 3, 4, none⟩ })).timing[(11 : SlotId)]
    = { TimingRec.reset with state := .unstable, lastAttempt := some ⟨.aborted, 9, 2, 3, 4⟩ } := by decide +kernel
/-- R169: in HUNT no frame has begun, so a gap discards none; inside a frame it does. -/
theorem test_gap_outside_frame : onNext (exec .mgmtInterByteTimeout State.reset) (fun t => t.mgmt.discarded == 0) = true
    ∧ onNext (exec .mgmtInterByteTimeout { State.reset with mgmt := { Mgmt.reset with receiver := .frame [1] } }) (fun t =>
      t.mgmt.discarded == 1 && t.mgmt.receiver == .hunt) = true := by decide +kernel

/-- Section 8.8: slot 3 ALIGNED with C 952 under pattern 7, the quality LOCKED, at a frame position. -/
def gated (p : Nat) (g : Gate) : State :=
  { ((((State.reset.setSlot 2 { seated .active with pwrEn := true, identity := some ⟨radioCard, .clean, none⟩ }).setLane 2
      ⟨.up, false, none⟩).setTiming 2 { TimingRec.reset with state := .aligned, values := some (614, 952) }).setTb
      { Timebase.reset with quality := .locked, p := p }) with
    gates := ⟨⟨7, [⟨0, 491520⟩, ⟨737280, 1105920⟩], 2458⟩, none, 0, false, Gates.reset.slots.set 2 g⟩ }
theorem test_window_ends : onNext (exec (.windowEnd 2) (gated 490567 ⟨true, some ⟨0, 0⟩, 0⟩)) (fun t =>
    t.tb.p == 490568 && t.gates.slots[2] == ⟨false, none, 2458⟩ && !rxg t 2) = true := by decide +kernel
theorem test_guard_ends : onNext (exec (.guardHoldExpiry 2) (gated 490568 ⟨false, none, 2458⟩)) (fun t =>
    t.tb.p == 493026 && rxg t 2) = true := by decide +kernel
theorem test_window_approached : onNext (exec (.windowApproach 2) (gated 493026 ⟨false, none, 0⟩)) (fun t =>
    t.tb.p == 733870 && t.gates.slots[2] == ⟨false, some ⟨0, 1⟩, 0⟩ && !rxg t 2) = true := by decide +kernel
theorem test_window_opens : onNext (exec (.txgRise 2) (gated 733870 ⟨false, some ⟨0, 1⟩, 0⟩)) (fun t =>
    t.tb.p == 736328 && t.gates.slots[2] == ⟨true, some ⟨0, 1⟩, 0⟩) = true := by decide +kernel
/-- Window 1 of the next slot frame opens at Q, where the frame pulse starts. -/
theorem test_next_frame_opens : onNext (exec (.framePulseStart 2) (gated 1225390 ⟨false, some ⟨1, 0⟩, 0⟩)) (fun t =>
    t.tb.p == 1227848 && t.gates.slots[2] == ⟨true, some ⟨1, 0⟩, 0⟩ && t.timing[2].fp == .pulse 2458) = true := by
  decide +kernel

/-! ### Witnesses: for each obligation, states and operands that meet the hypotheses of its clauses -/

/-- The state after reset with the record of slot 12 replaced; slot 12 is at the end of the range. -/
def with12 (r : SlotRec) : State := State.reset.setSlot 11 r
/-- A record of a card in a state, with its identity kept. -/
def carded (st : SlotState) : SlotRec := { seated st with identity := some ⟨radioCard, .clean, none⟩ }
/-- The state after reset with other Management Port items. -/
def withMgmt (m : Mgmt) : State := { State.reset with mgmt := m }
/-- A number of replies, then of notices, in the transmit queue. -/
def queued (replies notices : Nat) : List TxFrame :=
  List.replicate replies ⟨true, ⟨0x40, 0, [2]⟩⟩ ++ List.replicate notices ⟨false, ⟨0x41, 0, []⟩⟩

theorem witness_StepRunsFrontCommand :
    ({ State.reset with pending := [.holdoverSecond] }).pending = Instr.holdoverSecond :: []
    ∧ State.reset.pending = [] := by decide +kernel
theorem witness_RequestsParseBack :
    (Instr.patternStage 255 (.fields ⟨255, List.replicate 30 (4294967295, 0), some 65535, 4294967295⟩)).WellFormed
    ∧ (encodeRequest (.patternStage 255 (.fields ⟨255, List.replicate 30 (4294967295, 0), some 65535, 4294967295⟩))).isSome
      = true
    ∧ (Instr.trimSet 0 (.fields ⟨255, -32768⟩)).WellFormed
    ∧ encodeRequest (.trimSet 0 (.fields ⟨255, -32768⟩)) = some ⟨25, 0, [255, 128, 0]⟩ := by decide +kernel
theorem witness_FrameBytesMakeFrameWhole :
    State.reset.mgmt.receiver = .hunt ∧ (List.replicate 250 (0 : Byte)).length ≤ 250
    ∧ [0, 0] ≠ be16 (crc16 (Frame.covered ⟨4, 7, [5]⟩)).toNat := by decide +kernel
theorem witness_LinkCommandsFollowQueueRules :
    (withMgmt { Mgmt.reset with receiver := .frame [] }).mgmt.receiver = .frame []
    ∧ (([] ++ [250] : List Byte).headD 0).toNat ≤ 250 ∧ ([] : List Byte).length + 1 < (([] ++ [250] : List Byte).headD 0).toNat + 5
    ∧ 250 < (251 : Byte).toNat
    ∧ State.reset.mgmt.receiver = .hunt ∧ (List.replicate 250 (0 : Byte)).length ≤ 250
    ∧ (withMgmt { Mgmt.reset with requests := List.replicate 3 ⟨1, 0, []⟩ }).mgmt.requests.length < 4
    ∧ 4 ≤ (withMgmt { Mgmt.reset with requests := List.replicate 4 ⟨1, 0, []⟩ }).mgmt.requests.length
    ∧ repliesQueued { Mgmt.reset with transmit := queued 3 4 } < 4
    ∧ 4 ≤ repliesQueued { Mgmt.reset with transmit := queued 4 0 }
    ∧ State.reset.mgmt.transmit = ⟨false, restartedNotice⟩ :: [] ∧ State.reset.mgmt.restart = .none := by decide +kernel
theorem witness_BlockedRequestWaits :
    isRequest (.slotAdmit 0 (.fields 12)) = true
    ∧ (withMgmt { Mgmt.reset with restart := .replyPlaced }).mgmt.restart ≠ .none
    ∧ 4 ≤ repliesQueued (withMgmt { Mgmt.reset with transmit := queued 4 4 }).mgmt
    ∧ (∃ f ∈ (withMgmt { Mgmt.reset with requests := [⟨4, 0, [11]⟩] }).mgmt.requests.head?,
        parseRequest f ≠ .slotAdmit 0 (.fields 12)) := by decide +kernel
theorem witness_DefectiveRequestRefused :
    Ready (.slotAdmit 7 .malformed) (withMgmt { Mgmt.reset with requests := [⟨4, 7, []⟩], transmit := queued 3 4 })
    ∧ requestDefect (.slotAdmit 7 .malformed) = some (4, 7, .malformed)
    ∧ Ready (.unknownKindRequest 0 7) State.reset ∧ requestDefect (.unknownKindRequest 0 7) = some (0, 7, .unknownKind)
    ∧ Ready (.unknownKindRequest 255 7) State.reset
    ∧ requestDefect (.relaySet 255 .badByte) = some (31, 255, .badField) := by decide +kernel
theorem witness_RefusedRequestChangesNothing :
    isRequest (.slotAdmit 7 (.fields 13)) = true ∧ Ready (.slotAdmit 7 (.fields 13)) State.reset
    ∧ onNext (exec (.slotAdmit 7 (.fields 13)) State.reset) (fun t =>
        t.mgmt.transmit == State.reset.mgmt.transmit ++ [⟨true, ⟨0x40, 7, [132, 3]⟩⟩]) = true
    ∧ 128 ≤ (([132, 3] : List Byte).headD 0).toNat := by decide +kernel
theorem witness_ReadsOnlyReply :
    (∀ c ∈ [Instr.partInfo 0 (.fields ()), .slotRead 0 (.fields (slotNumber 11)),
      .identityReadFetch 0 (.fields (slotNumber 11)), .budgetRead 0 (.fields ()), .routeReadEntry 0 (.fields 254),
      .routeReadEntry 0 (.fields 255), .routeReadTable 0 (.fields 1), .routeReadTable 0 (.fields 0),
      .routeReadGroups 0 (.fields ()), .routeReadDomains 0 (.fields ()), .countersReadBuffer 0 (.fields (slotNumber 11)),
      .timingRead 0 (.fields ()), .delayMeasureRead 0 (.fields (slotNumber 11)), .patternReadPatterns 0 (.fields ()),
      .patternReadSlot 0 (.fields (slotNumber 11)), .countersReadCounters 0 (.fields ()), .alarmReadTable 0 (.fields 48),
      .alarmReadTable 0 (.fields 49), .alarmReadInputs 0 (.fields ()), .alarmReadRelays 0 (.fields ())],
      Ready c State.reset)
    ∧ (∀ k ∈ [0, 13], (k = 0 ∨ 12 < k) ∧ ∀ c ∈ [Instr.slotRead 0 (.fields k), .identityReadFetch 0 (.fields k),
      .countersReadBuffer 0 (.fields k), .delayMeasureRead 0 (.fields k), .patternReadSlot 0 (.fields k)],
      Ready c State.reset) := by decide +kernel
theorem witness_LinkStaysBounded :
    LinkBounded { withMgmt { Mgmt.reset with requests := List.replicate 4 ⟨1, 0, []⟩, transmit := queued 3 4 } with
      pending := [.partInfo 0 (.fields ())] }
    ∧ onNext (step { withMgmt { Mgmt.reset with requests := List.replicate 4 ⟨1, 0, []⟩, transmit := queued 3 4 } with
      pending := [.partInfo 0 (.fields ())] }) (fun t => repliesQueued t.mgmt == 4 && t.mgmt.requests.length == 3) = true
    := by decide +kernel
theorem witness_RestartWaitsForItsReply :
    Ready (.restart 9 (.fields ())) State.reset
    ∧ (withMgmt { Mgmt.reset with transmit := queued 1 1, restart := .replyPlaced }).mgmt.transmit
      = ⟨true, ⟨0x40, 0, [2]⟩⟩ :: queued 0 1
    ∧ ((⟨true, ⟨0x40, 0, [2]⟩⟩ : TxFrame).isReply = true ∧ (⟨true, ⟨0x40, 0, [2]⟩⟩ : TxFrame).frame.payload = [2])
    ∧ ¬((⟨true, ⟨0x40, 0, [1]⟩⟩ : TxFrame).isReply = true ∧ (⟨true, ⟨0x40, 0, [1]⟩⟩ : TxFrame).frame.payload = [2])
    ∧ State.reset.mgmt.restart ≠ .replySent := by decide +kernel
/-- A RESTART whose reply has been sent, with slot 12's record and the power budget replaced. -/
def restarting (b : Budget) (r : SlotRec) : State :=
  { (with12 r).setBudget b with mgmt := { Mgmt.reset with restart := .replySent } }
theorem witness_RestartKeepsCabinet :
    (restarting Budget.reset (carded .active)).mgmt.restart = .replySent
    ∧ (restarting Budget.reset (carded .active)).budget.episode = false
    ∧ (restarting Budget.reset (carded .active)).budget.shedList = []
    ∧ committed (restarting Budget.reset (carded .active)) ≤ (restarting Budget.reset (carded .active)).budget.effective
    ∧ (restarting { Budget.reset with episode := true, shedList := [11] } (carded .shed)).mgmt.restart = .replySent
    ∧ (restarting { Budget.reset with latch := some ⟨.host, 0⟩ } (carded .shed)).budget.latch.isSome = true
    ∧ (∀ p ∈ [OffPurpose.normal, .shed, .cycle], ∀ g ∈ [false, true],
      (restarting Budget.reset { carded (.draining p) with pwrGood := g }).slots[(11 : SlotId)].state = .draining p
      ∧ (restarting Budget.reset { carded (.draining p) with pwrGood := g }).slots[(11 : SlotId)].pwrGood = g
      ∧ (restarting Budget.reset { carded (.draining p) with pwrGood := g }).slots[(11 : SlotId)].present = true) := by
  decide +kernel
/-- Slot 3 of section 8.8 ACTIVE, ALIGNED and inside its window at a RESTART, with a report and an active input 8. -/
def restartingGated : State :=
  { (gated 0 ⟨true, some ⟨0, 0⟩, 0⟩).setInput 7 { InputRec.reset with level := false } with
    routes := { Routes.reset with reports := Routes.reset.reports.set 0 [(3, .minor)] }
    mgmt := { Mgmt.reset with restart := .replySent } }
theorem witness_RestartKeepsCabinet_more :
    restartingGated.mgmt.restart = .replySent ∧ restartingGated.timing[(2 : SlotId)].state = .aligned
    ∧ restartingGated.timing[(3 : SlotId)].state ≠ .aligned
    ∧ (restartingGated.gates.slots[(2 : SlotId)].txg = true ∧ mayTransmit restartingGated 2 = true)
    ∧ onNext (exec .restartTakeEffect restartingGated) (fun t => t.slots[(2 : SlotId)].state == .recovering
        && (allSlots.map fun n => t.routes.reports[n].length).sum == 1
        && conditionPresent t .inputActive (.input 7) 0 && conditionPresent t .cardReport (.slot 0) 3
        && t.alarms.table.map (·.code) == [.partRestarted, .inputActive, .cardReport, .timingHoldover]
        && t.gates.slots[(2 : SlotId)].txg) = true := by decide +kernel
/-- The codes of the table and the KINDs of the waiting notices. -/
def tableAndNotices (t : State) : List AlarmCode × List Byte :=
  (t.alarms.table.map (·.code), t.mgmt.transmit.map (·.frame.kind))
/-- Slot 12 ACTIVE under an episode and a capacity of 500 at a RESTART: a draw of 600 is shed before the rebuild and the episode
goes on (R63); one of 400 ends it, and the rebuild, which takes no raise or clear (R167), records no episode. -/
theorem test_restart_acts_before_rebuild :
    onNext (exec .restartTakeEffect (restarting { Budget.reset with effective := 500, episode := true }
        { carded .active with drawCounted := 600, pwrGood := true })) (fun t =>
      t.slots[(11 : SlotId)].state == .poweringOff .shed && t.budget.shedList == [11]
        && tableAndNotices t == ([.partRestarted, .budgetShedding], [0x42, 0x42, 0x41, 0x41])) = true
    ∧ onNext (exec .restartTakeEffect (restarting { Budget.reset with effective := 500, episode := true }
        { carded .active with drawCounted := 400, pwrGood := true })) (fun t =>
      t.slots[(11 : SlotId)].state == .recovering && !t.budget.episode
        && tableAndNotices t == ([.partRestarted], [0x42, 0x41])) = true := by decide +kernel
/-- The triggers of R50: the departure of the top of the shed list, a rise of the effective capacity, and not the joining, a
departure from below the top, or a fall. -/
theorem test_budget_triggers :
    passTriggered State.reset (State.reset.setBudget { Budget.reset with shedList := [0] }) = false
    ∧ passTriggered (State.reset.setBudget { Budget.reset with shedList := [0] }) State.reset = true
    ∧ passTriggered (State.reset.setBudget { Budget.reset with shedList := [1, 0] })
        (State.reset.setBudget { Budget.reset with shedList := [1] }) = false
    ∧ passTriggered State.reset (State.reset.setBudget { Budget.reset with effective := 8001 }) = true
    ∧ passTriggered State.reset (State.reset.setBudget { Budget.reset with effective := 7999 }) = false := by decide +kernel

/-- A hold of a filtered input in flight. -/
def hold : Timer := ⟨0, 6144000⟩
theorem witness_RawChangesStartHolds :
    State.reset.slots[(11 : SlotId)].pwrGood = false
    ∧ (with12 { carded .powering with pwrGood := true }).slots[(11 : SlotId)].pwrGood = true := by decide +kernel
theorem witness_PresentChangeMovesSlot :
    State.reset.slots[(11 : SlotId)].presentHold = none
    ∧ (with12 { SlotRec.reset with presentHold := some hold }).slots[(11 : SlotId)].presentHold.isSome = true
    ∧ (with12 { SlotRec.reset with presentHold := some hold }).slots[(11 : SlotId)].state = .empty
    ∧ (with12 { SlotRec.reset with presentHold := some hold, state := .poweringOff .normal }).slots[(11 : SlotId)].present
      = false
    ∧ (with12 { carded .active with presentHold := some hold, pwrEn := true, drawCounted := 300 }).slots[(11 : SlotId)].present
      = true
    ∧ PowerAsTabled (with12 { carded .active with presentHold := some hold, pwrEn := true, drawCounted := 300 })
    ∧ QueuedOnlyWaiting 11 (with12 { carded .active with presentHold := some hold, pwrEn := true, drawCounted := 300 })
    ∧ BudgetQuiet (with12 { carded .active with presentHold := some hold, pwrEn := true, drawCounted := 300 }) := by
  decide +kernel
theorem witness_LatchChangeMovesSlot :
    State.reset.slots[(11 : SlotId)].latchHold = none ∧ State.reset.slots[(11 : SlotId)].present = false
    ∧ (with12 { SlotRec.reset with latchHold := some hold }).slots[(11 : SlotId)].latchHold.isSome = true
    ∧ (with12 { seated .detected with latchHold := some hold, latchClosed := false }).slots[(11 : SlotId)].latchClosed = false
    ∧ (with12 { seated .detected with latchHold := some hold, latchClosed := false }).readers[(11 : SlotId)].line = none
    ∧ (∀ st ∈ [SlotState.awaiting .budget, .powering, .active, .draining .shed, .poweringOff .shed, .shed],
      (with12 { carded st with latchHold := some hold, pwrGood := true }).slots[(11 : SlotId)].latchHold.isSome = true
      ∧ (with12 { carded st with latchHold := some hold, pwrGood := true }).slots[(11 : SlotId)].latchClosed = true
      ∧ QueuedOnlyWaiting 11 (with12 { carded st with latchHold := some hold, pwrGood := true })) := by decide +kernel
theorem witness_PowerUpReachesService :
    State.reset.slots[(11 : SlotId)].goodHold = none ∧ State.reset.lanes[(11 : SlotId)].status ≠ .training
    ∧ (∀ st ∈ [SlotState.powering, .recovering],
      (with12 { carded st with goodHold := some hold, readDone := true }).slots[(11 : SlotId)].goodHold.isSome = true
      ∧ (with12 { carded st with goodHold := some hold, readDone := true }).slots[(11 : SlotId)].state = st)
    ∧ (∀ st ∈ [SlotState.training, .recovering],
      ((with12 (carded st)).setLane 11 ⟨.training, false, none⟩).lanes[(11 : SlotId)].status = .training
      ∧ ((with12 (carded st)).setLane 11 ⟨.training, false, none⟩).slots[(11 : SlotId)].state.mayTrain = true)
    ∧ State.reset.buffer.ports[(11 : SlotId)].sending = none ∧ portChoice State.reset.buffer.ports[(11 : SlotId)] = none
    ∧ portChoice { Port.reset with queues := ⟨[⟨6, 1⟩], [], [], []⟩ } = some (.t, ⟨6, 1⟩, Port.reset) := by
  decide +kernel
theorem witness_FailuresFaultSlot :
    State.reset.slots[(11 : SlotId)].pwrGood = false ∧ State.reset.slots[(11 : SlotId)].inrushWindow = none
    ∧ State.reset.slots[(11 : SlotId)].trainLimit = none
    ∧ (∀ st ∈ [SlotState.powering, .recovering],
      (with12 { carded st with inrushWindow := some hold }).slots[(11 : SlotId)].inrushWindow.isSome = true
      ∧ (with12 { carded st with inrushWindow := some hold }).slots[(11 : SlotId)].state.mayInrush = true
      ∧ QueuedOnlyWaiting 11 (with12 { carded st with inrushWindow := some hold }))
    ∧ (∀ st ∈ [SlotState.training, .recovering],
      (with12 { carded st with trainLimit := some hold, pwrGood := true }).slots[(11 : SlotId)].trainLimit.isSome = true
      ∧ (with12 { carded st with trainLimit := some hold, pwrGood := true }).slots[(11 : SlotId)].pwrGood = true
      ∧ (with12 { carded st with trainLimit := some hold, pwrGood := true }).slots[(11 : SlotId)].state.mayTrain = true
      ∧ BudgetQuiet (with12 { carded st with trainLimit := some hold, pwrGood := true })) := by decide +kernel
theorem witness_DrainAndPowerOffEnd :
    State.reset.slots[(11 : SlotId)].drainLimit = none ∧ State.reset.slots[(11 : SlotId)].offWait = none
    ∧ State.reset.slots[(11 : SlotId)].state.isDraining = false
    ∧ (∀ p ∈ [OffPurpose.normal, .shed, .cycle],
      (with12 { carded (.draining p) with drainLimit := some hold, pwrGood := true }).slots[(11 : SlotId)].state = .draining p
      ∧ (with12 { carded (.draining p) with drainLimit := some hold }).slots[(11 : SlotId)].drainLimit.isSome = true
      ∧ (with12 { carded (.draining p) with drainLimit := some hold }).slots[(11 : SlotId)].pwrGood = false
      ∧ (11 : SlotId) ∉ (with12 { carded (.draining p) with drainLimit := some hold }).sc.queue
      ∧ (with12 { carded (.poweringOff p) with offWait := some hold }).slots[(11 : SlotId)].offWait.isSome = true
      ∧ (11 : SlotId) ∉ (with12 { carded (.poweringOff p) with offWait := some hold }).sc.queue
      ∧ BudgetQuiet (with12 { carded (.poweringOff p) with offWait := some hold }))
    ∧ State.reset.routes.reports[(11 : SlotId)] = []
    ∧ portEmpty Port.reset = true ∧ portEmpty { Port.reset with sending := some (.t, ⟨0, 1⟩) } = false := by
  decide +kernel
theorem witness_SlotRequestsActByState :
    Ready (.slotRelease 0 (.fields (slotNumber 11))) (with12 (carded .active))
    ∧ (11 : SlotId) ∉ (with12 (carded .active)).sc.queue
    ∧ (with12 (carded .active)).slots[(11 : SlotId)].state = .active
    ∧ Ready (.slotPowerCycle 0 (.fields (slotNumber 11))) (with12 (carded .active)) ∧ State.reset.slots[(11 : SlotId)].state ≠ .active
    ∧ Ready (.slotClearFault 0 (.fields (slotNumber 11))) (with12 (carded (.faulted .cutoff)))
    ∧ ¬(FaultReason.cutoff = .cutoff ∧ (with12 (carded (.faulted .cutoff))).budget.latch.isSome = true)
    ∧ (∀ k ∈ [0, 13], (k = 0 ∨ 12 < k) ∧ Ready (.slotAdmit 0 (.fields k)) State.reset
      ∧ Ready (.slotRelease 0 (.fields k)) State.reset ∧ Ready (.slotPowerCycle 0 (.fields k)) State.reset
      ∧ Ready (.slotClearFault 0 (.fields k)) State.reset) := by decide +kernel

/-- A slot in the admission queue cannot be released: it waits in AWAITING. -/
theorem witness_SlotRequestsActByState_queued :
    Ready (.slotRelease 0 (.fields (slotNumber 11)))
      { with12 (carded (.awaiting .budget)) with sc := ⟨50, 100, 100, [11]⟩ }
    ∧ ({ with12 (carded (.awaiting .budget)) with sc := ⟨50, 100, 100, [11]⟩ }).slots[(11 : SlotId)].state = .awaiting .budget
    ∧ onNext (exec (.slotRelease 0 (.fields (slotNumber 11)))
      { with12 (carded (.awaiting .budget)) with sc := ⟨50, 100, 100, [11]⟩ }) (fun t =>
        t.mgmt.transmit.getLast? == some ⟨true, ⟨0x40, 0, [133, 4]⟩⟩) = true := by decide +kernel

/-- Slot 12 awaits approval beside slot 1, under a power budget and with an admission queue. -/
def awaitingBeside (r : SlotRec) (b : Budget) (queue : List SlotId) : State :=
  { ((with12 (carded (.awaiting .approval))).setSlot 0 r).setBudget b with sc := ⟨50, 100, 100, queue⟩ }
/-- Slot 12 awaits approval under an effective capacity. -/
def awaiting12 (effective : Nat) : State :=
  (with12 (carded (.awaiting .approval))).setBudget { Budget.reset with effective := effective }
theorem witness_AdmissionByBudget :
    Ready (.slotAdmit 0 (.fields (slotNumber 11))) (awaiting12 300)
    ∧ (awaiting12 300).slots[(11 : SlotId)].state = .awaiting .approval ∧ (11 : SlotId) ∉ (awaiting12 300).sc.queue
    ∧ committed (awaiting12 300) + declaredDraw (awaiting12 300) 11 ≤ (awaiting12 300).budget.effective
    ∧ (awaiting12 299).budget.effective < committed (awaiting12 299) + declaredDraw (awaiting12 299) 11
    ∧ (awaiting12 300).budget.restoring ≠ some 11 ∧ (awaiting12 300).budget.latch = none
    ∧ (∀ e ∈ [299, 300], ∀ s ∈ [awaitingBeside (carded .identifying) { Budget.reset with effective := e, restoring := some 0 } [],
        awaitingBeside (carded .shed) { Budget.reset with effective := e, shedList := [0] } [],
        awaitingBeside (carded (.awaiting .budget)) { Budget.reset with effective := e } [0],
        awaitingBeside (carded .detected) { Budget.reset with effective := e, episode := true } [],
        awaitingBeside (carded .detected) { Budget.reset with effective := e, latch := some ⟨.host, 0⟩ } []],
      Ready (.slotAdmit 0 (.fields (slotNumber 11))) s ∧ s.slots[(11 : SlotId)].state = .awaiting .approval
      ∧ (11 : SlotId) ∉ s.sc.queue ∧ s.budget.restoring ≠ some 11
      ∧ (s.budget.latch.isSome = true ∨ s.budget.episode = true ∨ s.budget.restoring.isSome = true
        ∨ s.budget.shedList ≠ [] ∨ s.sc.queue ≠ []))
    ∧ (with12 (carded (.poweringOff .normal))).slots[(11 : SlotId)].state.powered = true
    ∧ ¬(State.reset.slots[(11 : SlotId)].state = .awaiting .approval ∨ State.reset.slots[(11 : SlotId)].state = .awaiting .budget
      ∨ State.reset.slots[(11 : SlotId)].state.powered = true) := by decide +kernel
/-- The restoring slot 12, whose card draws 300, asks beside slot 1, whose card draws 200. -/
def restoring12 (st : SlotState) (b : Budget) (queue : List SlotId) : State :=
  awaitingBeside { carded st with identity := some ⟨{ radioCard with draw := 200 }, .clean, none⟩ }
    { b with restoring := some 11 } queue
theorem witness_AdmissionByBudget_hold :
    (∀ s ∈ [restoring12 .detected { Budget.reset with latch := some ⟨.host, 0⟩ } [],
        restoring12 .detected { Budget.reset with episode := true } []],
      Ready (.slotAdmit 0 (.fields (slotNumber 11))) s ∧ s.slots[(11 : SlotId)].state = .awaiting .approval
      ∧ s.budget.restoring = some 11 ∧ (s.budget.latch.isSome = true ∨ s.budget.episode = true))
    ∧ (∀ e ∈ [199, 200, 299], ∀ s ∈ [restoring12 .detected { Budget.reset with effective := e } [],
        restoring12 .shed { Budget.reset with effective := e, shedList := [0] } [],
        restoring12 (.awaiting .budget) { Budget.reset with effective := e } [0]],
      Ready (.slotAdmit 0 (.fields (slotNumber 11))) s ∧ (11 : SlotId) ∉ s.sc.queue
      ∧ s.budget.restoring = some 11 ∧ s.budget.latch = none ∧ s.budget.episode = false
      ∧ committed s ≤ s.budget.effective ∧ s.budget.effective < committed s + declaredDraw s 11
      ∧ (committed s + declaredDraw s 0 ≤ s.budget.effective ↔ e ≠ 199))
    ∧ (restoring12 .detected { Budget.reset with effective := 300 } []).budget.effective
      = committed (restoring12 .detected { Budget.reset with effective := 300 } [])
        + declaredDraw (restoring12 .detected { Budget.reset with effective := 300 } []) 11
    ∧ onNext (exec (.slotAdmit 0 (.fields (slotNumber 11)))
        (restoring12 .shed { Budget.reset with effective := 200, shedList := [0] } []))
        (fun t => t.budget.restoring == some 0 && t.sc.queue == [11]) = true := by decide +kernel
/-- A slot that joins the admission queue is no event of an evaluation (R53): an ACTIVE slot 1 that has become a candidate since
the last one, as by the suggestion of a recovery read, is not shed at it. -/
theorem test_join_evaluates_nothing :
    onNext (exec (.slotAdmit 0 (.fields (slotNumber 11)))
        (awaitingBeside { carded .active with drawCounted := 400 } { Budget.reset with effective := 300, episode := true } []))
      (fun t => t.slots[(0 : SlotId)].state == .active && t.sc.queue == [11] && t.budget.shedList == []) = true := by
  decide +kernel
/-- Slots 1 and 12 ACTIVE with draws of 400 and 600, and a capacity of 700. -/
def overdrawn : State :=
  ((State.reset.setSlot 0 { carded .active with drawCounted := 400 }).setSlot 11
    { carded .active with drawCounted := 600 }).setBudget { Budget.reset with effective := 700, episode := true }
theorem witness_PolicySetTakesValues :
    Ready (.slotPolicySet 0 (.fields ⟨12, some .auto, some 255, some true, some 255, some 0, some 65535⟩)) (awaiting12 300)
    ∧ (12 : Nat) = slotNumber 11 ∧ BudgetQuiet (awaiting12 300) ∧ (awaiting12 300).budget.episode = false
    ∧ committed (awaiting12 300) + declaredDraw (awaiting12 300) 11 ≤ (awaiting12 300).budget.effective
    ∧ ¬(some Policy.auto = some .auto ∧ State.reset.slots[(11 : SlotId)].state = .awaiting .approval)
    ∧ (Ready (.slotPolicySet 0 (.fields ⟨12, none, some 7, none, none, none, none⟩)) overdrawn
      ∧ overdrawn.budget.episode = true ∧ overdrawn.budget.latch = none
      ∧ overdrawn.slots[(11 : SlotId)].state.staying = true ∧ overdrawn.budget.powerOn.Nodup
      ∧ (∃ x ∈ some 7, min 7 x ≠ overdrawn.slots[(11 : SlotId)].priority)
      ∧ (∀ x ∈ some 4, min 7 x = overdrawn.slots[(11 : SlotId)].priority))
    ∧ (∀ k ∈ [0, 13], k = 0 ∨ 12 < k) := by decide +kernel
theorem witness_SlotsStayCoherent :
    SlotsCoherent { with12 { carded .active with pwrEn := true } with
      lanes := State.reset.lanes.set 11 ⟨.up, false, none⟩, pending := [.presentRawChange 11] }
    ∧ onNext (step { with12 { carded .active with pwrEn := true } with
      lanes := State.reset.lanes.set 11 ⟨.up, false, none⟩, pending := [.presentRawChange 11] })
        (fun t => t.slots[(11 : SlotId)].presentHold.isSome) = true := by decide +kernel

theorem witness_HammingCorrectsSingleErrors :
    WrittenWell ⟨0, 0⟩ ∧ WrittenWell ⟨radioLast, 0x8F⟩ ∧ (0 : Nat) < 72 ∧ (71 : Nat) < 72 ∧ (70 : Nat) < 71 := by
  decide +kernel
/-- Slot 12 before the last block of its card completes, in a state and with a purpose. -/
def reading12 (st : SlotState) (p : ReadPurpose) (reread : Bool) (t : List Entry) : State :=
  ((with12 (carded st)).setReader 11
    { ReadContext.reset with line := some p, nextBlock := 5, blocks := radioBlocks, reread := reread }).setEntries t
/-- Slot 12 in a state, with blocks gathered by a read and the last one that was corrected. -/
def gathering (st : SlotState) (p : ReadPurpose) (blocks : List (BitVec 64)) (k : Option Nat) : State :=
  (with12 (carded st)).setReader 11
    { ReadContext.reset with line := some p, nextBlock := blocks.length + 1, blocks := blocks, corrected := k }
theorem witness_BlockCompletionAdvancesRead :
    State.reset.readers[(11 : SlotId)].line = none
    ∧ (reading12 .identifying .host false []).readers[(11 : SlotId)].line = some .host
    ∧ (reading12 .identifying .host false []).readers[(11 : SlotId)].reread = false
    ∧ decodeAnswer none = .uncorrectable ∧ decodeAnswer (some ⟨0, 3⟩) = .uncorrectable
    ∧ progressOf ([] ++ [0x15000F061234012C]) = .going
    ∧ decodeAnswer (some ⟨0, 0x80⟩) = .corrected 0 ∧ decodeAnswer (some ⟨0, 0⟩) = .clean 0
    ∧ progressOf ([] ++ [0]) = .badFormat .version
    ∧ (reading12 .identifying .admission true []).readers[(11 : SlotId)].reread = true
    ∧ (reading12 .identifying .admission true []).slots[(11 : SlotId)].state = .identifying
    ∧ (11 : SlotId) ∉ (reading12 .identifying .admission true []).sc.queue
    ∧ decodeAnswer (some ⟨radioLast, 0x8F⟩) = .clean radioLast
    ∧ (reading12 .identifying .admission false []).readers[(11 : SlotId)].corrected = none
    ∧ progressOf ((reading12 .identifying .admission false []).readers[(11 : SlotId)].blocks ++ [radioLast]) = .valid radioCard
    ∧ (reserve 11 radioCard.addresses (reading12 .identifying .admission false [learnedEntry 0 45])).1 = .addressConflict
    ∧ (reserve 11 radioCard.addresses (reading12 .identifying .admission false [])).1 = .good
    ∧ (reading12 .identifying .admission false []).slots[(11 : SlotId)].policy = .approval
    ∧ (reading12 .recovering .recovery false []).slots[(11 : SlotId)].state = .recovering
    ∧ cardOf (reading12 .recovering .recovery false []) 11 = some radioCard
    ∧ (radioCard.serial = radioCard.serial ∧ sameAddresses radioCard.addresses radioCard.addresses = true)
    ∧ ¬({ radioCard with serial := [] }.serial = radioCard.serial) := by decide +kernel
theorem witness_BlockCompletionAdvancesRead_ends :
    (∀ k ∈ [none, some 3], (gathering .identifying .admission [] k).readers[(11 : SlotId)].corrected = k
      ∧ Gathers (some ⟨0, 0⟩) (gathering .identifying .admission [] k).readers[(11 : SlotId)] 0 k
      ∧ Gathers (some ⟨0, 0x80⟩) (gathering .identifying .admission [] k).readers[(11 : SlotId)] 0 (some 1)
      ∧ (∀ w ∈ [(SlotState.identifying, ReadPurpose.admission), (.recovering, .recovery), (.active, .host), (.detected, .host)],
        (gathering w.1 w.2 radioBlocks k).slots[(11 : SlotId)].state = w.1
        ∧ (gathering w.1 w.2 radioBlocks k).readers[(11 : SlotId)].line = some w.2
        ∧ (gathering w.1 w.2 radioBlocks k).readers[(11 : SlotId)].reread = false
        ∧ (11 : SlotId) ∉ (gathering w.1 w.2 radioBlocks k).sc.queue
        ∧ Gathers (some ⟨radioLast, 0x8F⟩) (gathering w.1 w.2 radioBlocks k).readers[(11 : SlotId)] radioLast k
        ∧ Gathers (some (flipBit ⟨radioLast, 0x8F⟩ 71)) (gathering w.1 w.2 radioBlocks k).readers[(11 : SlotId)] radioLast
          (some 5)))
    ∧ (reserve 11 radioCard.addresses (reading12 .identifying .admission false
        ((List.range 96).map fun a => learnedEntry 0 (a + 100)))).1 = .routeTableFull
    ∧ ((reading12 .identifying .admission false []).budget.latch = none
      ∧ (reading12 .identifying .admission false []).budget.shedList = []
      ∧ (reading12 .identifying .admission false []).sc.queue = []
      ∧ committed (reading12 .identifying .admission false []) + radioCard.draw
        ≤ (reading12 .identifying .admission false []).budget.effective)
    ∧ (∀ s ∈ [(reading12 .identifying .admission false []).setSlot 11 { carded .identifying with waived := true },
        ((reading12 .identifying .admission false []).setSlot 11 { carded .identifying with policy := .auto }).setBudget
          { Budget.reset with effective := 299 }],
      (s.slots[(11 : SlotId)].policy = .auto ∨ s.slots[(11 : SlotId)].waived = true)
      ∧ (reserve 11 radioCard.addresses s).1 = .good)
    ∧ 299 < committed State.reset + radioCard.draw
    ∧ (carded .detected).latchClosed = true
    ∧ ¬((carded .active).state = .detected ∧ (carded .active).latchClosed = true) := by decide +kernel
theorem witness_BlockCompletionAdvancesRead_waits :
    (∀ b ∈ [{ Budget.reset with restoring := some 0 }, { Budget.reset with shedList := [0] },
        { Budget.reset with restoring := some 11, effective := 299 }, { Budget.reset with restoring := some 11, episode := true }],
      b.restoring ≠ some 11 ∧ (b.restoring.isSome = true ∨ b.shedList ≠ []) ∨ b.episode = true
        ∨ b.restoring = some 11 ∧ b.shedList = [] ∧ committed State.reset ≤ b.effective
          ∧ b.effective < committed State.reset + radioCard.draw)
    ∧ ((reading12 .detected .host true []).slots[(11 : SlotId)].latchClosed = true
      ∧ (reading12 .detected .host true []).readers[(11 : SlotId)].reread = true
      ∧ Gathers (some ⟨0, 0⟩) (gathering .detected .host [] none).readers[(11 : SlotId)] 0 none) := by decide +kernel
theorem witness_ReserveAllOrNothing :
    (∃ a ∈ [254], ∃ e ∈ findEntry [learnedEntry 0 254] a, e.target ≠ .slot 11)
    ∧ (∀ a ∈ [253, 254], ∀ e ∈ findEntry ((List.range 95).map fun k => learnedEntry 0 (k + 1)) a, e.target = .slot 11)
    ∧ 96 < ((List.range 95).map fun k => learnedEntry 0 (k + 1)).length
      + ([253, 254].filter fun a => (findEntry ((List.range 95).map fun k => learnedEntry 0 (k + 1)) a).isNone).length
    ∧ ((List.range 95).map fun k => learnedEntry 0 (k + 1)).length
      + ([254].filter fun a => (findEntry ((List.range 95).map fun k => learnedEntry 0 (k + 1)) a).isNone).length ≤ 96 := by
  decide +kernel
theorem witness_HostReadStartsOnFreeLine :
    Ready (.identityReadStart 0 (.fields (slotNumber 11))) (with12 (carded .active))
    ∧ (∀ k ∈ [0, 13], (k = 0 ∨ 12 < k) ∧ Ready (.identityReadStart 0 (.fields k)) State.reset) := by decide +kernel
theorem witness_BudgetSetTakesCapacities :
    Ready (.budgetSet 0 (.fields ⟨some 65535, none, some 0⟩)) State.reset ∧ BudgetQuiet State.reset
    ∧ committed State.reset ≤ 0 := by decide +kernel
/-- The latch is SET. -/
def latched (st : SlotState) : State := (with12 (carded st)).setBudget { Budget.reset with latch := some ⟨.host, 0⟩ }
theorem witness_CutoffSetsLatch :
    Ready (.cutoff 0 (.fields ())) (latched .empty) ∧ (latched .empty).budget.latch.isSome = true
    ∧ Ready (.cutoff 0 (.fields ())) (with12 { carded .powering with pwrEn := true })
    ∧ (with12 { carded .powering with pwrEn := true }).slots[(11 : SlotId)].state.cutOff = true
    ∧ (with12 { carded .powering with pwrEn := true }).slots[(0 : SlotId)].state.cutOff = false
    ∧ (∀ n ∈ [(11 : SlotId)], (with12 { carded .powering with pwrEn := true }).slots[n].state.onPowerList = true)
    ∧ PowerAsTabled (with12 { carded .powering with pwrEn := true })
    ∧ State.reset.alarms.table.length < 48 ∧ (∃ r ∈ State.reset.alarms.table, r.active = false ∨ r.severity ≠ .critical) := by
  decide +kernel
/-- An input with action CUTOFF, at a level. -/
def stopInput (level : Bool) (s : State) : State :=
  s.setInput 7 { InputRec.reset with action := .cutoff, level := level }
theorem witness_CutoffReleaseByLatchAndInputs :
    Ready (.cutoffRelease 0 (.fields ())) (stopInput false (latched (.faulted .cutoff)))
    ∧ actionActive (stopInput false (latched (.faulted .cutoff))) .cutoff = true
    ∧ actionActive (stopInput true (latched (.faulted .cutoff))) .cutoff = false
    ∧ (stopInput true (latched (.faulted .cutoff))).budget.latch.isSome = true
    ∧ QueueWaits (stopInput true (latched (.faulted .cutoff)))
    ∧ (stopInput true (latched (.faulted .cutoff))).slots[(11 : SlotId)].state = .faulted .cutoff
    ∧ State.reset.budget.latch = none := by decide +kernel
theorem witness_DrawStaysWithinCapacity :
    DrawWithinCapacity { with12 { carded .active with drawCounted := 8000 } with pending := [.holdoverSecond] }
    ∧ onNext (step { with12 { carded .active with drawCounted := 8000 } with pending := [.holdoverSecond] })
      (fun t => committed t == 8000) = true := by decide +kernel
theorem witness_ShortestLeadingPartIsShed :
    (leadingPart overdrawn 600 [11, 0]).2 = true ∧ ([11] : List SlotId) <+: [11, 0]
    ∧ 600 ≤ (([11] : List SlotId).map fun m => overdrawn.slots[m].drawCounted).sum
    ∧ (leadingPart overdrawn 1001 [11, 0]).2 = false ∧ overdrawn.budget.powerOn.Nodup
    ∧ overdrawn.budget.effective < staying overdrawn ∧ QueueWaits overdrawn
    ∧ (leadingPart overdrawn (staying overdrawn - overdrawn.budget.effective) (candidateOrder overdrawn)).2 = true
    ∧ (latched .empty).budget.latch.isSome = true
    ∧ (∀ e ∈ [299, 300], ∀ s ∈ [awaitingBeside (carded .shed) { Budget.reset with effective := e, shedList := [0] } [],
        awaitingBeside (carded .shed) { Budget.reset with effective := e, shedList := [0, 1] } [0],
        awaitingBeside (carded (.awaiting .budget)) { Budget.reset with effective := e } [0, 11]],
      s.budget.latch = none ∧ s.budget.episode = false ∧ s.budget.restoring = none
      ∧ (s.budget.shedList = [] → s.sc.queue = [0, 11] ∧ s.sc.queue.Nodup)
      ∧ (s.budget.shedList ≠ [] → s.slots[(0 : SlotId)].state = .shed)
      ∧ (committed s + declaredDraw s 0 ≤ s.budget.effective ↔ e = 300))
    ∧ (State.reset.budget.shedList = [] ∧ State.reset.sc.queue = []) := by
  decide +kernel
/-- Slot 12 ACTIVE, and slot 1 POWERING with PWR_GOOD at a level. -/
def besideActive (good : Bool) : State :=
  (with12 (carded .active)).setSlot 0 { carded .powering with pwrGood := good }
/-- R21: a shed order drains an ACTIVE slot and takes down one that comes up, and the last one ordered is on top. -/
theorem witness_ShortestLeadingPartIsShed_orders :
    ([11, 0] : List SlotId).Nodup ∧ (∀ g ∈ [false, true], ∀ m ∈ [(11 : SlotId), 0],
      (besideActive g).slots[m].present = true
      ∧ ((besideActive g).slots[m].state = .active ∨ (besideActive g).slots[m].state.onPowerList = true))
    ∧ (eachSlot shedOrder [11, 0] (besideActive false)).budget.shedList = [0, 11]
    ∧ (∀ m ∈ (leadingPart overdrawn (staying overdrawn - overdrawn.budget.effective) (candidateOrder overdrawn)).1,
      overdrawn.slots[m].present = true) := by
  decide +kernel
/-- The two of `overdrawn` before the episode. -/
def shrunk : State := overdrawn.setBudget { overdrawn.budget with episode := false }
theorem witness_ShortestLeadingPartIsShed_episode :
    shrunk.budget.latch = none ∧ shrunk.budget.episode = false ∧ shrunk.budget.effective < committed shrunk
    ∧ drawView shrunk ≠ drawView State.reset
    ∧ (findAlarm State.reset .budgetShedding .part 0 = none ∧ State.reset.alarms.table.length < 48)
    ∧ findAlarm (startEpisode State.reset) .budgetShedding .part 0
      = some ⟨.budgetShedding, .part, 0, .major, true, false, 1, 0, 0⟩ := by decide +kernel
/-- The state after reset with a forwarding table. -/
def routed (t : List Entry) : State := State.reset.setEntries t
theorem witness_RouteRequestsActByEntry :
    Ready (.routeSet 0 .badByte) State.reset
    ∧ (∀ a ∈ [0, 255], (a = 0 ∨ 254 < a) ∧ Ready (.routeClear 0 (.fields a)) State.reset)
    ∧ targetOf .group 17 = none ∧ targetOf .unicast 0 = none ∧ targetOf .group 16 = some (.group 15)
    ∧ (∀ a ∈ [1, 254], 1 ≤ a ∧ a ≤ 254 ∧ Ready (.routeSet 0 (.fields ⟨a, .unicast, 12, none⟩)) State.reset
      ∧ targetOf .unicast 12 = some (.slot 11) ∧ findEntry State.reset.routes.table a = none
      ∧ findEntry (routed [learnedEntry 11 a]).routes.table a = some (learnedEntry 11 a)
      ∧ Ready (.routeClear 0 (.fields a)) (routed [learnedEntry 11 a])) := by decide +kernel
theorem witness_EntriesStayDistinct :
    EntriesDistinct { routed ((List.range 96).map fun k => learnedEntry 0 (k + 1)) with pending := [.routeClear 0 (.fields 96)] }
    ∧ onNext (step { routed ((List.range 96).map fun k => learnedEntry 0 (k + 1)) with pending := [.routeClear 0 (.fields 96)] })
      (fun t => t.routes.table.length == 96) = true := by decide +kernel
theorem witness_GroupAndDomainSetReplace :
    Ready (.groupSet 0 (.fields ⟨16, [1, 12, 12]⟩)) State.reset ∧ (16 : Nat) = (15 : GroupId).val + 1
    ∧ (∀ k ∈ [1, 12, 12], 1 ≤ k ∧ k ≤ 12) ∧ (0 = 0 ∨ 16 < 0) ∧ (17 = 0 ∨ 16 < 17) ∧ (∃ k ∈ [1, 13], k = 0 ∨ 12 < k)
    ∧ Ready (.domainSet 0 (.fields ⟨[(12, 3)], [(1, 2, true), (3, 2, false)]⟩)) State.reset
    ∧ domainFieldsGood ⟨[(12, 3)], [(1, 2, true), (3, 2, false)]⟩ = true ∧ State.reset.routes.locked = false
    ∧ (slotNumber 11, 3) ∈ [(12, 3)] ∧ slotNumber 0 ∉ [(12, 3)].map (·.1)
    ∧ (1, 2, true) ∈ [(1, 2, true), (3, 2, false)]
    ∧ (∀ q ∈ [(1, 2, true), (3, 2, false)], ¬(q.1 = 1 ∧ q.2.1 = 3) ∧ ¬(q.1 = 3 ∧ q.2.1 = 1))
    ∧ domainFieldsGood ⟨[(13, 0)], []⟩ = false ∧ domainFieldsGood ⟨[(1, 4)], []⟩ = false := by decide +kernel
/-- The domain lock is LOCKED. -/
def lockedDomains : State := State.reset.setRoutes { Routes.reset with locked := true }
theorem witness_DomainLockFreezesDomains :
    Ready (.domainLock 0 (.fields ())) State.reset ∧ State.reset.routes.locked = false
    ∧ Ready (.domainLock 0 (.fields ())) lockedDomains ∧ lockedDomains.routes.locked = true
    ∧ Ready (.domainSet 0 (.fields ⟨[(12, 3)], []⟩)) lockedDomains ∧ domainFieldsGood ⟨[(12, 3)], []⟩ = true := by
  decide +kernel
theorem witness_NoCopyCrossesDomains : ∀ d ∈ shared.buffer.stored, d.id < shared.buffer.nextId := by decide +kernel
theorem witness_QueueSetTakesLimits :
    (∀ k ∈ [0, 12, 13], Ready (.queueSet 0 (.fields ⟨k, ⟨some 255, none, some 0, some 64⟩,
        ⟨some 0, some 65535, none, none⟩, some 0, some 255⟩)) State.reset)
    ∧ 12 < 13 ∧ (12 : Nat) = slotNumber 11 := by decide +kernel
theorem witness_ArbiterKeepsReserve :
    ({ State.reset with buffer := { Buffer.reset with free := 2 } }).buffer.free ≤ 2 ∧ 2 < State.reset.buffer.free
    ∧ (with12 (carded .active)).slots[(11 : SlotId)].state = .active ∧ State.reset.slots[(0 : SlotId)].state ≠ .active := by
  decide +kernel
theorem witness_PoolStaysBalanced :
    PoolBalanced { State.reset with pending := [.creditMessageSend 11] }
    ∧ onNext (step { State.reset with pending := [.creditMessageSend 11] }) (fun t => t.buffer.free == 512) = true := by
  decide +kernel

/-- A packet of one block to an address, in class C, from slot 3 of the shared cabinet, with a credit when it began. -/
def block (dest : Byte) : List Byte := [dest, 30, 1, 1] ++ List.replicate 60 0
def receiving (dest : Byte) (credit : Nat) : State := shared.setLane 2 ⟨.up, false, some ⟨block dest, credit⟩⟩
theorem witness_PacketReceptionEnds_framing (dest : Byte) (t : BitVec 32) :
    framingGood (block dest ++ []) ((block dest ++ []).length / 64) (crc32 (block dest ++ [])) = true
    ∧ framingGood (block dest ++ List.replicate 64 0) ((block dest ++ List.replicate 64 0).length / 64) t = false := by
  simp [framingGood, packetLength, block, byteAt]
theorem witness_PacketReceptionEnds :
    (receiving 10 1).lanes[(2 : SlotId)].reception = some ⟨block 10, 1⟩ ∧ shared.lanes[(2 : SlotId)].reception = none
    ∧ ((shared.setLane 2 ⟨.up, false, none⟩).lanes[(2 : SlotId)].status = .up
      ∧ (shared.setLane 2 ⟨.up, false, none⟩).lanes[(2 : SlotId)].reception = none)
    ∧ ¬((receiving 10 1).lanes[(2 : SlotId)].status = .up ∧ (receiving 10 1).lanes[(2 : SlotId)].reception = none)
    ∧ 0 < packetLength (block 10) ∧ packetLength (block 10) ≤ 1
    ∧ lookup (receiving 99 1) 2 (byteAt (block 99) 0) (packetClass (block 99)) (packetLength (block 99)) (block 99) = .refused .noRoute 0
    ∧ lookup (receiving 40 1) 2 (byteAt (block 40) 0) (packetClass (block 40)) (packetLength (block 40)) (block 40)
      = .refused .forbidden 1
    ∧ lookup (receiving 10 1) 2 (byteAt (block 10) 0) (packetClass (block 10)) (packetLength (block 10)) (block 10) = .copies [0] 0
    ∧ lookup shared 2 0 (packetClass [0, 3, 1, 1, 0, 1, 7]) (packetLength [0, 3, 1, 1, 0, 1, 7]) [0, 3, 1, 1, 0, 1, 7]
      = .taken (.clear 7)
    ∧ lookup shared 2 0 (packetClass [0, 3, 1, 1, 0, 0, 7, 2]) (packetLength [0, 3, 1, 1, 0, 0, 7, 2]) [0, 3, 1, 1, 0, 0, 7, 2]
      = .taken (.raise 7 .major)
    ∧ (Discard.noRoute ≠ .forbidden ∧ packetClass (block 10) = .c)
    ∧ [(0 : SlotId)].filter (queueAccepts (receiving 10 1) (packetClass (block 10)) (packetLength (block 10))) = [0]
    ∧ lookup (shared.setLane 3 ⟨.up, false, some ⟨block 200, 1⟩⟩) 3 (byteAt (block 200) 0) (packetClass (block 200)) (packetLength (block 200)) (block 200) = .copies [0] 2
    ∧ [(0 : SlotId)].filter (queueAccepts ((receiving 10 1).setPort 0 { Port.reset with limits := ⟨1, 0, 1, 1⟩ })
        (packetClass (block 10)) (packetLength (block 10))) = [] := by
  decide +kernel
/-- R89: the blocks of an overlength packet, all 25 within the credit, go back to the free pool, and the arbiter runs. -/
theorem test_overlength_returns_blocks :
    let s := ((with12 (carded .active)).setCredits 11 ⟨⟨0, 0, 0⟩, ⟨0, 30, 0⟩, ⟨0, 0, 0⟩, ⟨0, 0, 0⟩⟩).setLane 11
      ⟨.up, false, some ⟨block 10, 30⟩⟩
    onNext (exec (.packetOverlength 11) { s with buffer := { s.buffer with free := 482 } }) (fun t =>
      t.buffer.free == 507 && t.buffer.credits[(11 : SlotId)].c == ⟨0, 5, 0⟩ && t.buffer.counters.badPacket == 1) = true := by
  decide +kernel
/-- Slot 12 ACTIVE with packet 5 of two blocks in transmission. -/
def sending (owed : List SlotId) : State :=
  { ((with12 (carded .active)).setLane 11 ⟨.up, false, none⟩).setPort 11
      { Port.reset with sending := some (.s, ⟨5, 2⟩), queues := ⟨[⟨6, 1⟩], [], [], []⟩ } with
    buffer := { (((with12 (carded .active)).setPort 11 { Port.reset with sending := some (.s, ⟨5, 2⟩) }).buffer) with
      free := 509, stored := [⟨5, 2, .s, none, owed, []⟩], nextId := 7 } }
theorem witness_TransmissionEndAndCreditMessage :
    State.reset.buffer.ports[(11 : SlotId)].sending = none
    ∧ (sending [11]).buffer.ports[(11 : SlotId)].sending = some (.s, ⟨5, 2⟩)
    ∧ (sending [11]).slots[(11 : SlotId)].state = .active ∧ (sending [11]).lanes[(11 : SlotId)].status = .up
    ∧ (sending [11]).buffer.stored.find? (·.id == 5) = some ⟨5, 2, .s, none, [11], []⟩
    ∧ (sending [0, 11]).buffer.stored.find? (·.id == 5) = some ⟨5, 2, .s, none, [0, 11], []⟩
    ∧ (∃ m ∈ [(0 : SlotId), 11], m ≠ 11)
    ∧ portChoice { Port.reset with queues := ⟨[⟨6, 1⟩], [⟨7, 1⟩], [], []⟩ }
      = some (.t, ⟨6, 1⟩, { Port.reset with queues := ⟨[], [⟨7, 1⟩], [], []⟩ })
    ∧ portChoice { Port.reset with queues := ⟨[], [⟨7, 1⟩], [⟨8, 1⟩], []⟩ }
      = some (.c, ⟨7, 1⟩, { Port.reset with queues := ⟨[], [], [⟨8, 1⟩], []⟩ })
    ∧ portChoice Port.reset = none
    ∧ (∀ p ∈ [{ Port.reset with queues := ⟨[], [], [⟨7, 4⟩], []⟩ },
        { Port.reset with queues := ⟨[], [], [⟨7, 1⟩, ⟨8, 1⟩], []⟩, sDeficit := 1, turnOpened := true }],
      p.turnB = false ∧ (∃ c ∈ p.queues.s.head?, c.length = (if p.turnOpened then p.sDeficit else p.sDeficit + p.sQuantum)))
    ∧ (∀ p ∈ [{ Port.reset with queues := ⟨[], [], [⟨7, 5⟩], [⟨8, 2⟩]⟩ },
        { Port.reset with queues := ⟨[], [], [⟨7, 1⟩], [⟨8, 2⟩, ⟨9, 1⟩]⟩, turnOpened := true }],
      p.turnB = false
      ∧ (∃ c ∈ p.queues.s.head?, c.length = (if p.turnOpened then p.sDeficit else p.sDeficit + p.sQuantum) + 1)
      ∧ (∃ c ∈ p.queues.b.head?, c.length = p.bDeficit + p.bQuantum))
    ∧ (∀ p ∈ [{ Port.reset with queues := ⟨[], [], [⟨7, 4⟩], [⟨8, 3⟩]⟩, turnB := true },
        { Port.reset with queues := ⟨[], [], [⟨7, 4⟩], [⟨8, 1⟩, ⟨9, 1⟩]⟩, turnB := true, turnOpened := true }],
      p.turnB = true
      ∧ (∃ c ∈ p.queues.b.head?, c.length = (if p.turnOpened then p.bDeficit else p.bDeficit + p.bQuantum) + 1)
      ∧ (∃ c ∈ p.queues.s.head?, c.length = p.sDeficit + p.sQuantum))
    ∧ (∀ x ∈ [(⟨7, 24⟩ : Copy)], x.length ≤ 24) ∧ 1 ≤ Port.reset.sQuantum ∧ 1 ≤ Port.reset.bQuantum
    ∧ ¬(State.reset.lanes[(11 : SlotId)].status = .up ∧ State.reset.buffer.ports[(11 : SlotId)].sending = none)
    ∧ (∀ u ∈ [0, 1, 63, 64], (perClass (⟨⟨4, 4, u⟩, ⟨8, 8, 0⟩, ⟨16, 9, 9⟩, ⟨8, 1, 1⟩⟩ : PerClass Credit) .t).unsent ≤ 64) := by
  decide +kernel
/-- Slot 12 DRAINING with the same packet in transmission and nothing behind it. -/
def draining12 (quiet good : Bool) : State :=
  (((sending [11]).setSlot 11 { carded (.draining .cycle) with pwrGood := good }).setLane 11 ⟨.up, quiet, none⟩).setPort 11
    { Port.reset with sending := some (.s, ⟨5, 2⟩) }
theorem witness_TransmissionEndAndCreditMessage_draining :
    (∀ q ∈ [false, true], ∀ g ∈ [false, true],
      (draining12 q g).buffer.ports[(11 : SlotId)].sending = some (.s, ⟨5, 2⟩) ∧ (draining12 q g).lanes[(11 : SlotId)].status = .up
      ∧ (draining12 q g).slots[(11 : SlotId)].state = .draining .cycle
      ∧ portEmpty { (draining12 q g).buffer.ports[(11 : SlotId)] with sending := none } = true
      ∧ (draining12 q g).lanes[(11 : SlotId)].quiet = q ∧ (draining12 q g).slots[(11 : SlotId)].pwrGood = g
      ∧ (11 : SlotId) ∉ (draining12 q g).sc.queue)
    ∧ onNext (exec (.transmissionEnd 11) (draining12 true true)) (fun t => t.slots[(11 : SlotId)].state == .poweringOff .cycle)
      = true
    ∧ onNext (exec (.transmissionEnd 11) (draining12 false true)) (fun t => t.slots[(11 : SlotId)].state == .draining .cycle)
      = true
    ∧ (let p := { Port.reset with queues := ⟨[], [], [⟨7, 4⟩], []⟩, turnB := true }
      p.turnB = true ∧ p.queues.b = [] ∧ p.queues.s = [⟨7, p.sDeficit + p.sQuantum⟩]) := by decide +kernel
/-- The credit messages of R87: none for a class without unsent credit, at most 64 blocks in each. -/
theorem test_credit_messages :
    creditMessagesOf ⟨⟨4, 3, 3⟩, ⟨8, 8, 0⟩, ⟨64, 64, 64⟩, ⟨64, 1, 65⟩⟩ = [⟨.t, 3⟩, ⟨.s, 64⟩, ⟨.b, 64⟩, ⟨.b, 1⟩] := by
  decide +kernel

/-- Slot 12 ACTIVE with a card that needs timing, under a number of free blocks and a staged pattern. -/
def announcing (free : Nat) (staged : Option (Pattern × FrameCount)) : State :=
  { with12 (carded .active) with
    buffer := { Buffer.reset with free := free }, gates := { Gates.reset with staged := staged } }
theorem witness_OscillatorPeriodsAdvanceFrame :
    TimebaseInRange Timebase.reset
    ∧ TimebaseInRange { Timebase.reset with p := 1228799, acc := 4294967295, steer := 429496 }
    ∧ TimebaseInRange { Timebase.reset with steer := -429496 }
    ∧ (Timebase.reset.osc + 1) % Timebase.reset.samplePeriod ≠ 0 ∧ false = Timebase.reset.extFilter.level
    ∧ (∀ n : SlotId, (0 : BitVec 12).getLsbD n.val = Timebase.reset.teFilters[n].level)
    ∧ 0 < periodsTo Timebase.reset 1228800
    ∧ (∀ c ∈ [3, 4], true ≠ (State.reset.setTb { Timebase.reset with osc := 1, extFilter := ⟨false, c, true⟩ }).tb.extFilter.level
      ∧ (1 + 1) % Timebase.reset.samplePeriod = 0 ∧ Timebase.reset.refs = [])
    ∧ edgesSettled (announcing 512 (some (⟨7, [], 2458⟩, 1))).tb = true
    ∧ (announcing 512 (some (⟨7, [], 2458⟩, 1))).gates.staged = some (⟨7, [], 2458⟩, 1)
    ∧ ((Timebase.reset.cfc + 1 - 1).toNat < 2147483648 ∧ (Timebase.reset.cfc + 1 - 0x80000002).toNat < 2147483648
      ∧ 2147483648 ≤ (Timebase.reset.cfc + 1 - 2).toNat ∧ 2147483648 ≤ (Timebase.reset.cfc + 1 - 0x80000001).toNat)
    ∧ (allSlots.filter fun n => State.reset.slots[n].state == .active && needsTiming State.reset n) = []
    ∧ (allSlots.filter fun n => (announcing 0 none).slots[n].state == .active && needsTiming (announcing 0 none) n) = [11]
    ∧ (announcing 0 none).buffer.free = 0 ∧ 0 < (announcing 1 none).buffer.free
    ∧ [(11 : SlotId)].filter (queueAccepts (announcing 1 none) .t 1) = [11]
    ∧ [(11 : SlotId)].filter (queueAccepts ((announcing 1 none).setPort 11 { Port.reset with
        queues := ⟨List.replicate 8 ⟨0, 1⟩, [], [], []⟩ }) .t 1) = []
    ∧ (edgesSettled { Timebase.reset with extFilter := ⟨false, 4, true⟩ } = false
      ∧ 5 * Timebase.reset.samplePeriod ≤ periodsTo { Timebase.reset with p := 1228790 } 1228800
      ∧ (∀ n : SlotId, State.reset.timing[n].measuring = none) ∧ 0 < Timebase.reset.samplePeriod) := by decide +kernel
/-- The second-position of `steered` moved, and its offset set. -/
def steeredAt (p offset : Nat) : State := steered.setTb { steered.tb with p := p, refOffset := offset }
/-- The same in a quality, with a jump count and a count of good edges. -/
def steeredIn (y : Quality) (p jumps good : Nat) : State :=
  steered.setTb { steered.tb with p := p, quality := y, jumpCount := jumps, goodCount := good }
/-- ACQUIRING with a step pending, and slot 12's attempt in progress. -/
def stepping : State :=
  (steered.setTb { steered.tb with quality := .acquiring .free, stepPending := true }).setTiming 11
    { TimingRec.reset with measuring := some ⟨1, true, 9, [1228], 3, 4, some 7⟩ }
theorem witness_EdgeSteersTimebase :
    (edgeFilter { Timebase.reset with extFilter := ⟨true, 0, true⟩ } .ext).level = true
    ∧ (steeredAt 1228799 122879999).tb.p < 1228800 ∧ (steeredAt 1228799 122879999).tb.refOffset ≤ 122879999
    ∧ filterLatency (steeredAt 0 0).tb + sourceDelay (steeredAt 0 0) .ext ≤ 122880000
    ∧ (∀ y ∈ [Quality.locked, .acquiring .free, .acquiring .held], ∀ c ∈ [0, 1, 2], ∀ g ∈ [14, 15],
      ∀ x ∈ [(59, 40), (60, 41), (1219, 1200), (1220, 1201)],
      SelectedEdge .ext ⟨.ext, true, some 0, 0, 0⟩ 0 (steeredIn y x.1 c g)
      ∧ (steeredIn y x.1 c g).tb.switchPending = false ∧ (steeredIn y x.1 c g).tb.stepPending = false
      ∧ (steeredIn y x.1 c g).tb.quality = y ∧ (steeredIn y x.1 c g).tb.jumpCount = c
      ∧ (steeredIn y x.1 c g).tb.goodCount = g ∧ (edgeError (steeredIn y x.1 c g) .ext).natAbs = x.2)
    ∧ (∀ x ∈ [(59, 40), (60, 41)], SelectedEdge .ext ⟨.ext, true, some 0, 0, 0⟩ 0
        (steered.setTb { steered.tb with p := x.1, switchPending := true })
      ∧ (edgeError (steered.setTb { steered.tb with p := x.1, switchPending := true }) .ext).natAbs = x.2)
    ∧ (SelectedEdge .ext ⟨.ext, true, some 0, 0, 0⟩ 0 stepping ∧ stepping.tb.quality = .acquiring .free
      ∧ stepping.tb.stepPending = true ∧ stepping.tb.cfc.toNat + 100 ≤ 4294967296
      ∧ stepping.timing[(11 : SlotId)].measuring = some ⟨1, true, 9, [1228], 3, 4, some 7⟩
      ∧ resultStaged stepping.timing[(11 : SlotId)] = false ∧ stepping.timing[(0 : SlotId)].measuring = none
      ∧ stepping.alarms.table.length < 48) := by decide +kernel
/-- HOLDOVER at an elapsed time. -/
def holding (elapsed : Nat) : State := State.reset.setTb { Timebase.reset with quality := .holdover, holdElapsed := elapsed }
/-- A timebase at an edge, in a quality, with a selection and a source list. -/
def rising (y : Quality) (sel : Option Ref) (l : List RefRec) : State :=
  State.reset.setTb { Timebase.reset with osc := 122880000, quality := y, selected := sel, refs := l }
theorem witness_SilenceAndHoldoverEndTrust :
    refRec State.reset.tb .ext = none
    ∧ (refRec { Timebase.reset with refs := [⟨.ext, false, none, 0, 0⟩] } .ext = some ⟨.ext, false, none, 0, 0⟩
      ∧ (⟨.ext, false, none, 0, 0⟩ : RefRec).lastEdge = none)
    ∧ refRec { Timebase.reset with refs := [⟨.ext, false, some 0, 0, 0⟩] } .ext = some ⟨.ext, false, some 0, 0, 0⟩
    ∧ refRec steered.tb .ext = some ⟨.ext, true, some 0, 0, 0⟩ ∧ steered.tb.selected = some .ext
    ∧ steered.tb.quality = .locked ∧ (∀ r ∈ steered.tb.refs, r.qualified = true → r.src = .ext)
    ∧ (∀ last ∈ [none, some 16385, some 16384, some 0], ∀ k ∈ [0, 1, 2], ∀ y ∈ [Quality.freerun, .holdover],
      RisingEdge .ext (rising y none [⟨.ext, false, last, k, 0⟩])
      ∧ refRec (rising y none [⟨.ext, false, last, k, 0⟩]).tb .ext = some ⟨.ext, false, last, k, 0⟩
      ∧ (rising y none [⟨.ext, false, last, k, 0⟩]).tb.selected = none
      ∧ (last.any (plausibleGap 122880000) = true ↔ last = some 16384 ∨ last = some 0))
    ∧ (∀ last ∈ [16385, 16384], ∀ k ∈ [0, 1],
      RisingEdge .ext (rising .locked (some .ext) [⟨.slot 0, false, none, 0, 0⟩, ⟨.ext, true, some last, 0, k⟩])
      ∧ refRec (rising .locked (some .ext) [⟨.slot 0, false, none, 0, 0⟩, ⟨.ext, true, some last, 0, k⟩]).tb .ext
        = some ⟨.ext, true, some last, 0, k⟩
      ∧ (some last).any (plausibleGap 122880000) = (last == 16384))
    ∧ (rising .locked (some (.slot 0)) [⟨.slot 0, true, some 0, 0, 0⟩, ⟨.ext, true, some 0, 0, 0⟩]).tb.selected ≠ some .ext
    ∧ (∀ r ∈ [(⟨.slot 0, false, none, 0, 0⟩ : RefRec)], r.qualified = false)
    ∧ (∃ r ∈ [(⟨.slot 0, false, none, 0, 0⟩ : RefRec), ⟨.ext, true, some 0, 0, 0⟩, ⟨.slot 1, true, some 0, 0, 0⟩],
      r.src = .slot 1 ∧ r.qualified = true)
    ∧ State.reset.tb.quality ≠ .holdover
    ∧ ((holding 14399).tb.quality = .holdover ∧ (holding 14399).tb.holdElapsed + 1 ≤ (holding 14399).tb.holdoverLimit)
    ∧ (holding 14400).tb.holdoverLimit < (holding 14400).tb.holdElapsed + 1 := by decide +kernel
/-- Two qualified sources, of which the first or the second is selected, and one source of a cabinet in ACQUIRING. -/
theorem witness_SilenceAndHoldoverEndTrust_moves :
    (∀ y ∈ [Quality.locked, .acquiring .free, .acquiring .held],
      (let s := (rising y (some (.slot 0)) [⟨.ext, false, some 0, 2, 0⟩, ⟨.slot 0, true, some 0, 0, 0⟩])
      RisingEdge .ext s ∧ refRec s.tb .ext = some ⟨.ext, false, some 0, 2, 0⟩ ∧ (some 0).any (plausibleGap s.tb.osc) = true
      ∧ s.tb.revertive = true ∧ s.tb.refs = [] ++ ⟨.ext, false, some 0, 2, 0⟩ :: [⟨.slot 0, true, some 0, 0, 0⟩]
      ∧ s.tb.selected = some (.slot 0) ∧ Ref.slot 0 ≠ .ext)
      ∧ (let s := (rising y (some .ext) [⟨.ext, true, some 0, 0, 0⟩, ⟨.slot 0, true, some 0, 0, 0⟩])
      refRec s.tb .ext = some ⟨.ext, true, some 0, 0, 0⟩ ∧ s.tb.selected = some .ext
      ∧ s.tb.refs = [⟨.ext, true, some 0, 0, 0⟩] ++ ⟨.slot 0, true, some 0, 0, 0⟩ :: []
      ∧ ∀ r ∈ [(⟨.ext, true, some 0, 0, 0⟩ : RefRec)], r.qualified = true → r.src = .ext))
    ∧ (∀ o ∈ [QOrigin.free, .held],
      let s := rising (.acquiring o) (some .ext) [⟨.ext, true, some 0, 0, 0⟩]
      s.tb.quality = .acquiring o ∧ refRec s.tb .ext = some ⟨.ext, true, some 0, 0, 0⟩ ∧ s.tb.selected = some .ext
      ∧ ∀ r ∈ s.tb.refs, r.qualified = true → r.src = .ext) := by decide +kernel
theorem witness_SteeringAndCompensationStayInRange :
    SteeringInRange { steered with pending := [.edgeTaken .ext] }
    ∧ CompensationInRange (steered.setTiming 11
        { TimingRec.reset with values := some (4096, 65535), staged := some ⟨0, 0, none⟩ })
    ∧ onNext (step { steered with pending := [.edgeTaken .ext] }) (fun t => t.tb.steer == 101734) = true := by
  decide +kernel
theorem witness_TimingSetTakesSettings :
    (∀ f ∈ [TimingFields.mk none none none none none (some 0), ⟨some [0, 0], none, none, none, none, none⟩,
        ⟨some [0, 1, 2, 3], none, none, none, none, none⟩, ⟨some [13], none, none, none, none, none⟩],
      Ready (.timingSet 0 (.fields f)) State.reset
      ∧ ((∃ k ∈ f.samplePeriod, k ≠ 1 ∧ k ≠ 2 ∧ k ≠ 8)
        ∨ (∃ x ∈ f.refs, 3 < x.length ∨ ¬x.Nodup ∨ ∃ k ∈ x, 12 < k)))
    ∧ Ready (.timingSet 0 (.fields ⟨some [0, 12, 1], some false, some 65535, some 4294967295, some 0, some 8⟩)) (holding 1)
    ∧ some [0, 12, 1] = some ([Ref.ext, .slot 11, .slot 0].map refNumber) ∧ [Ref.ext, .slot 11, .slot 0].length ≤ 3
    ∧ [Ref.ext, .slot 11, .slot 0].Nodup ∧ State.reset.tb.quality = .freerun
    ∧ [Ref.ext, .slot 11, .slot 0] ≠ State.reset.tb.refs.map (·.src)
    ∧ onNext (exec (.timingSet 0 (.fields ⟨none, none, none, none, some 0, none⟩)) (holding 1)) (fun t =>
      t.tb.selected == none && t.tb.holdoverLimit < (holding 1).tb.holdElapsed) = true := by decide +kernel

/-- Slot 12 with a timing record, at a frame position. -/
def timed (r : TimingRec) (p : Nat) : State :=
  ((with12 (carded .active)).setTiming 11 r).setTb { Timebase.reset with p := p }
/-- An attempt in progress with a number of probes sent, and a window open or not. -/
def attempt (failed sent : Nat) (window : Option Nat) : Attempt := ⟨failed, true, sent, [], 0, 0, window⟩
/-- An echo of slot 12's probe at a frame position, with values accepted and probes sent. -/
def echoing (p : Nat) (accepted : List Nat) (sent : Nat) : State :=
  timed { TimingRec.reset with state := .measuring, measuring := some ⟨0, true, sent, accepted, 0, 0, some 0⟩ } p
theorem witness_ProbesAndPulsesDriveOutput :
    TimebaseInRange (timed TimingRec.reset 614399).tb
    ∧ (timed { TimingRec.reset with measuring := some (attempt 0 1 none), probeDue := true, probeFrame := true } 614399).tb.p
      < 614400
    ∧ (attempt 0 1 none).running = true ∧ State.reset.timing[(11 : SlotId)].probeDue = false
    ∧ State.reset.timing[(11 : SlotId)].state ≠ .aligned
    ∧ (∀ c ∈ [2, 65535], aligned (timed { TimingRec.reset with state := .aligned, values := some (0, c) } 0) 11 = true
      ∧ compOf (timed { TimingRec.reset with state := .aligned, values := some (0, c) } 0) 11 = c
      ∧ (timed { TimingRec.reset with state := .aligned, values := some (0, c) } 0).tb.p < 1228800 - c)
    ∧ (timed { TimingRec.reset with state := .aligned, values := some (4096, 0) } 0).pulseHold = false
    ∧ edgesSettled (timed { TimingRec.reset with state := .aligned, values := some (0, 1) } 1228798).tb = true
    ∧ (timed { TimingRec.reset with state := .aligned, values := some (0, 1) } 1228798).tb.p < 1228799
    ∧ (timed { TimingRec.reset with
        staged := some ⟨614, 952, some ⟨1229, 7, 8602⟩⟩, unstableRaised := true } 0).timing[(11 : SlotId)].staged
      = some ⟨614, 952, some ⟨1229, 7, 8602⟩⟩
    ∧ ((attempt 0 15 none).sent < 16 ∧ resultStaged { TimingRec.reset with measuring := some (attempt 0 15 none) } = false)
    ∧ (State.reset.tb.stepPending = false ∧ (stepping.tb.quality = .acquiring .free ∧ stepping.tb.stepPending = true))
    ∧ (∀ x ∈ [(614508, 0, [1229], 15), (618604, 4096, [1229], 16), (618604, 4096, [1, 500, 900, 1300, 1700, 2100, 2500], 16)],
      (edgeFilter (echoing x.1 x.2.2.1 x.2.2.2).tb (.slot 11)).level = false
      ∧ eligible (echoing x.1 x.2.2.1 x.2.2.2) 11 = false
      ∧ (echoing x.1 x.2.2.1 x.2.2.2).timing[(11 : SlotId)].measuring
        = some ⟨0, true, x.2.2.2, x.2.2.1, 0, 0, some 0⟩
      ∧ (((secondPosition (echoing x.1 x.2.2.1 x.2.2.2).tb % 1228800 + 614400) % 1228800 : Nat) : Int)
        - 4 * (echoing x.1 x.2.2.1 x.2.2.2).tb.samplePeriod - turnaround (echoing x.1 x.2.2.1 x.2.2.2) 11 = x.2.1)
    ∧ (∀ x ∈ [(614507, -1), (618605, 4097)],
      (((secondPosition (echoing x.1 [] 8).tb % 1228800 + 614400) % 1228800 : Nat) : Int)
        - 4 * (echoing x.1 [] 8).tb.samplePeriod - turnaround (echoing x.1 [] 8) 11 = x.2
      ∧ 8 ≤ ([] : List Nat).length + (16 - 8))
    ∧ (8 ≤ [1228, 1230, 1227, 1252, 1229, 1228, 1231].length + 1
      ∧ medianData ([1228, 1230, 1227, 1252, 1229, 1228, 1231] ++ [1229]) = some ⟨1229, 7, 8602⟩
      ∧ (max 0 (min 4096 (((8602 + 7) / (2 * 7) : Nat) + (0 : Int)))).toNat = 614)
    ∧ medianData ([1, 500, 900, 1300, 1700, 2100, 2500] ++ [4096]) = none
    ∧ ([1227, 1228, 1228, 1229, 1229, 1230, 1231, 1252].Perm [1228, 1230, 1227, 1252, 1229, 1228, 1231, 1229]
      ∧ [1227, 1228, 1228, 1229, 1229, 1230, 1231, 1252].Pairwise (· ≤ ·)
      ∧ ([1227, 1228, 1228, 1229, 1229, 1230, 1231, 1252].getD 3 0 + [1227, 1228, 1228, 1229, 1229, 1230, 1231, 1252].getD 4 0) / 2
        = 1229)
    ∧ State.reset.timing[(11 : SlotId)].measuring = none
    ∧ some (attempt 0 8 (some 0)) = some { attempt 0 8 none with window := some 0 }
    ∧ 8 ≤ (attempt 0 8 (some 0)).accepted.length + (16 - (attempt 0 8 (some 0)).sent)
    ∧ ((attempt 1 9 (some 0)).accepted.length + (16 - (attempt 1 9 (some 0)).sent) < 8
      ∧ (attempt 1 9 (some 0)).failed + 1 < 3)
    ∧ 3 ≤ (attempt 2 9 (some 0)).failed + 1 := by decide +kernel
theorem witness_DelayMeasureAndTrimSet :
    (∀ k ∈ [0, 13], (k = 0 ∨ 12 < k) ∧ Ready (.delayMeasureStart 0 (.fields k)) State.reset
      ∧ Ready (.trimSet 0 (.fields ⟨k, 0⟩)) State.reset)
    ∧ Ready (.delayMeasureStart 0 (.fields (slotNumber 11))) (timed TimingRec.reset 0)
    ∧ ¬(State.reset.slots[(11 : SlotId)].state = .training ∨ State.reset.slots[(11 : SlotId)].state = .active)
    ∧ (timed TimingRec.reset 0).slots[(11 : SlotId)].state = .active ∧ (timed TimingRec.reset 0).tb.selected ≠ some (.slot 11)
    ∧ (timed TimingRec.reset 0).timing[(11 : SlotId)].measuring = none
    ∧ (timed { TimingRec.reset with measuring := some (attempt 0 1 none) } 0).timing[(11 : SlotId)].measuring.isSome = true
    ∧ Ready (.trimSet 0 (.fields ⟨12, -32768⟩)) (timed { TimingRec.reset with staged := some ⟨4096, 0, none⟩ } 0)
    ∧ (12 : Nat) = slotNumber 11 ∧ max (-2048) (min 2047 (-32768 : Int)) = -2048 ∧ max (-2048) (min 2047 (2047 : Int)) = 2047
    ∧ (timed { TimingRec.reset with staged := some ⟨4096, 0, none⟩ } 0).timing[(11 : SlotId)].staged = some ⟨4096, 0, none⟩
    ∧ (timed { TimingRec.reset with state := .aligned, values := some (614, 952) } 0).timing[(11 : SlotId)].staged = none
    ∧ (timed { TimingRec.reset with state := .aligned, values := some (614, 952) } 0).timing[(11 : SlotId)].values
      = some (614, 952)
    ∧ (timed TimingRec.reset 0).timing[(11 : SlotId)].state ≠ .aligned := by decide +kernel
/-- The second window of pattern 7 in slot frame 0. -/
def window2 : Placed := ⟨⟨0, 1⟩, 737280, 1105920, 2458⟩
theorem witness_GateCommandsFollowWindow_idle :
    TimebaseInRange State.reset.tb ∧ edgesSettled (gated 0 Gate.reset).tb = true ∧ approachTarget State.reset 2 = none ∧ riseTarget State.reset 2 = none
    ∧ endTarget State.reset 2 = none ∧ State.reset.gates.slots[(2 : SlotId)].guardHold = 0 := by decide +kernel
theorem witness_GateCommandsFollowWindow_approach :
    (gated 493026 Gate.reset).tb.p < 733870 ∧ 733870 + 1 < 1228800 ∧ window2 ∈ occurrences (gated 493026 Gate.reset)
    ∧ window2.start < window2.stop
    ∧ AloneUpTo (occurrences (gated 493026 Gate.reset)) window2 (slotCoord (gated 493026 Gate.reset) 2)
      (733870 + compOf (gated 493026 Gate.reset) 2 + 1)
    ∧ approachTarget (gated 493026 Gate.reset) 2 = some 733870
    ∧ window2.start = 733870 + compOf (gated 493026 Gate.reset) 2 + window2.guardTime
    ∧ 733870 + compOf (gated 493026 Gate.reset) 2 + 1 < window2.stop := by decide +kernel
theorem witness_GateCommandsFollowWindow_rise :
    (gated 736327 ⟨false, some ⟨0, 1⟩, 0⟩).tb.p < 736328 ∧ window2 ∈ occurrences (gated 736327 ⟨false, some ⟨0, 1⟩, 0⟩)
    ∧ AloneUpTo (occurrences (gated 736327 ⟨false, some ⟨0, 1⟩, 0⟩)) window2 (slotCoord (gated 736327 ⟨false, some ⟨0, 1⟩, 0⟩) 2)
      (736328 + compOf (gated 736327 ⟨false, some ⟨0, 1⟩, 0⟩) 2 + 1)
    ∧ riseTarget (gated 736327 ⟨false, some ⟨0, 1⟩, 0⟩) 2 = some 736328
    ∧ (gated 736327 ⟨false, some ⟨0, 1⟩, 0⟩).gates.slots[(2 : SlotId)].approached = some window2.occ
    ∧ window2.start = 736328 + compOf (gated 736327 ⟨false, some ⟨0, 1⟩, 0⟩) 2 := by decide +kernel
theorem witness_GateCommandsFollowWindow_end :
    (gated 736328 ⟨true, some ⟨0, 1⟩, 0⟩).tb.p < 1104968 ∧ window2 ∈ occurrences (gated 736328 ⟨true, some ⟨0, 1⟩, 0⟩)
    ∧ AloneUpTo (occurrences (gated 736328 ⟨true, some ⟨0, 1⟩, 0⟩)) window2 (slotCoord (gated 736328 ⟨true, some ⟨0, 1⟩, 0⟩) 2)
      (1104968 + compOf (gated 736328 ⟨true, some ⟨0, 1⟩, 0⟩) 2 + 1)
    ∧ endTarget (gated 736328 ⟨true, some ⟨0, 1⟩, 0⟩) 2 = some 1104968
    ∧ window2.stop = 1104968 + compOf (gated 736328 ⟨true, some ⟨0, 1⟩, 0⟩) 2
    ∧ 0 < (gated 490568 ⟨false, none, 2458⟩).gates.slots[(2 : SlotId)].guardHold
    ∧ (gated 490568 ⟨false, none, 2458⟩).tb.p + (gated 490568 ⟨false, none, 2458⟩).gates.slots[(2 : SlotId)].guardHold + 1
      < 1228800
    ∧ (∀ q ∈ occurrences (gated 490568 ⟨false, none, 2458⟩), ∀ y ∈ q.positions,
        ¬(slotCoord (gated 490568 ⟨false, none, 2458⟩) 2 < y
          ∧ y ≤ slotCoord (gated 490568 ⟨false, none, 2458⟩) 2 + 2458 + 1)) := by decide +kernel
theorem witness_TxgStaysVouched :
    SlotsCoherent { gated 490567 ⟨true, some ⟨0, 0⟩, 0⟩ with pending := [.windowEnd 2] }
    ∧ TxgVouched { gated 490567 ⟨true, some ⟨0, 0⟩, 0⟩ with pending := [.windowEnd 2] }
    ∧ CreditInServiceOnly (gated 490567 ⟨true, some ⟨0, 0⟩, 0⟩) ∧ CutoffHolds (latched .empty)
    ∧ onNext (step { gated 490567 ⟨true, some ⟨0, 0⟩, 0⟩ with pending := [.windowEnd 2] })
      (fun t => !t.gates.slots[(2 : SlotId)].txg) = true := by decide +kernel
/-- Inside window 1 of section 8.8 TXG is on and RXG off, over the start of the next slot frame too. -/
theorem witness_TxgStaysVouched_gates :
    (∀ x ∈ [(490567, 0), (736328, 1)], PatternsProper (gated x.1 ⟨true, some ⟨0, x.2⟩, 0⟩)
      ∧ TimebaseInRange (gated x.1 ⟨true, some ⟨0, x.2⟩, 0⟩).tb ∧ TxgInside (gated x.1 ⟨true, some ⟨0, x.2⟩, 0⟩)
      ∧ rxg (gated x.1 ⟨true, some ⟨0, x.2⟩, 0⟩) 2 = false)
    ∧ onNext (step { gated 1227848 ⟨true, some ⟨1, 0⟩, 0⟩ with pending := [.frameBoundary] }) (fun t =>
        t.gates.slots[(2 : SlotId)].txg && !rxg t 2 && t.tb.cfc == 1) = true := by decide +kernel

/-- The state after reset with input 8's record replaced. -/
def input8 (r : InputRec) : State := State.reset.setInput 7 r
theorem witness_AlarmInputChangesReachOwners :
    State.reset.alarms.inputs[(7 : InputId)].hold = none
    ∧ (input8 { InputRec.reset with hold := some ⟨false, hold⟩ }).alarms.inputs[(7 : InputId)].hold = some ⟨false, hold⟩
    ∧ (input8 { InputRec.reset with hold := some ⟨false, hold⟩ }).alarms.inputs[(7 : InputId)].action = .report
    ∧ State.reset.budget.effective = effectiveCapacity (input8 { InputRec.reset with hold := some ⟨false, hold⟩ })
    ∧ (∀ k ∈ [0, 9], (k = 0 ∨ 8 < k) ∧ Ready (.inputSet 0 (.fields ⟨k, none, none, none, none⟩)) State.reset)
    ∧ Ready (.inputSet 0 (.fields ⟨8, some .activeHigh, some 255, some .cutoff, some .critical⟩)) State.reset
    ∧ (8 : Nat) = inputNumber 7 ∧ (0 : InputId) ≠ 7
    ∧ ¬(State.reset.alarms.inputs[(7 : InputId)].isActive = true ∧ State.reset.alarms.inputs[(7 : InputId)].action = .cutoff)
    ∧ State.reset.budget.latch = none ∧ (latched .empty).budget.latch.isSome = true := by decide +kernel
/-- Input 8 becomes active and inactive, by its filtered change and by a polarity. -/
theorem witness_AlarmInputChangesReachOwners_activity :
    onNext (exec (.alarmInputFilteredChange 7) (input8 { InputRec.reset with hold := some ⟨false, hold⟩ })) (fun t =>
      t.alarms.inputs[(7 : InputId)].isActive && (findAlarm t .inputActive (.input 7) 0).any (·.active)) = true
    ∧ onNext (exec (.alarmInputFilteredChange 7) (input8 { InputRec.reset with level := false, hold := some ⟨true, hold⟩ }))
      (fun t => !t.alarms.inputs[(7 : InputId)].isActive) = true
    ∧ (input8 { InputRec.reset with level := false, hold := some ⟨true, hold⟩ }).alarms.inputs[(7 : InputId)].isActive = true
    ∧ AlarmsDistinct (input8 { InputRec.reset with level := false, hold := some ⟨true, hold⟩ })
    ∧ (∀ v ∈ [true, false], onNext (exec (.inputSet 0 (.fields ⟨8, some .activeHigh, none, none, none⟩))
        (input8 { InputRec.reset with level := v })) (fun t => t.alarms.inputs[(7 : InputId)].isActive == v) = true
      ∧ (input8 { InputRec.reset with level := v }).alarms.inputs[(7 : InputId)].isActive = !v
      ∧ State.reset.budget.effective = effectiveCapacity (input8 { InputRec.reset with level := v })) := by decide +kernel
theorem witness_AlarmAckAnswersByRecord :
    (∀ f ∈ [AckFields.mk 17 0 0 0 1, ⟨0, 3, 13, 0, 1⟩, ⟨0, 0, 0, 0, 0⟩, ⟨0, 0, 0, 0, 256⟩],
      Ready (.alarmAck 0 (.fields f)) State.reset
      ∧ (alarmCodeOf f.code = none ∨ alarmSourceOf f.sourceKind f.sourceNumber = none ∨ f.raiseCount = 0 ∨ 255 < f.raiseCount))
    ∧ Ready (.alarmAck 0 (.fields ⟨16, 0, 0, 0, 255⟩)) State.reset
    ∧ alarmCodeOf 16 = some .phaseStep ∧ alarmSourceOf 0 0 = some .part ∧ alarmSourceOf 3 12 = some (.ref (.slot 11))
    ∧ findAlarm State.reset .phaseStep .part 0 = none
    ∧ findAlarm State.reset .partRestarted .part 0 = some (AlarmRec.restarted 0)
    ∧ (AlarmRec.restarted 0).raiseCount ≠ 255 ∧ (AlarmRec.restarted 0).raiseCount = 1 ∧ (AlarmRec.restarted 0).active = false
    ∧ findAlarm (State.reset.setTable [AlarmRec.fresh .timingFreerun .part 0 .critical 0]) .timingFreerun .part 0
      = some (AlarmRec.fresh .timingFreerun .part 0 .critical 0)
    ∧ (AlarmRec.fresh .timingFreerun .part 0 .critical 0).active = true ∧ noticesQueued State.reset.mgmt < 4 := by
  decide +kernel
/-- A table of a number of records. -/
def reports (k : Nat) : List AlarmRec := (List.range k).map fun c => AlarmRec.fresh .cardReport (.slot 0) (c + 1) .minor 0
theorem witness_ClearFollowsRecord :
    findAlarm State.reset .phaseStep .part 0 = none
    ∧ findAlarm State.reset .partRestarted .part 0 = some (AlarmRec.restarted 0) ∧ (AlarmRec.restarted 0).active = false
    ∧ (∀ ack ∈ [false, true],
      findAlarm (State.reset.setTable [{ AlarmRec.fresh .cardReport (.slot 11) 255 .critical 0 with acknowledged := ack }])
        .cardReport (.slot 11) 255 = some { AlarmRec.fresh .cardReport (.slot 11) 255 .critical 0 with acknowledged := ack }
      ∧ { AlarmRec.fresh .cardReport (.slot 11) 255 .critical 0 with acknowledged := ack }.active = true)
    ∧ ¬(AlarmCode.cardReport = .cardReport ∧ AlarmSource.slot 11 = .slot 0 ∧ 255 = 255)
    ∧ (findAlarm (State.reset.setTable (reports 47)) .phaseStep .part 0 = none ∧ (reports 47).length < 48)
    ∧ (findAlarm (State.reset.setTable (reports 48)) .phaseStep .part 0 = none ∧ (reports 48).length = 48
      ∧ AlarmsDistinct (State.reset.setTable (reports 48)))
    ∧ (reports 48 = [] ++ AlarmRec.fresh .cardReport (.slot 0) 1 .minor 0 :: (reports 48).tail
      ∧ (∀ x ∈ reports 48, x.active = true) ∧ (∀ x ∈ (reports 48).tail, Severity.minor.code ≤ x.severity.code)
      ∧ Severity.minor.code < Severity.major.code)
    ∧ ((AlarmRec.restarted 0).active = false
      ∧ reports 47 ++ [AlarmRec.restarted 0] = reports 47 ++ AlarmRec.restarted 0 :: []
      ∧ (∀ x ∈ reports 47, x.active = true)
      ∧ findAlarm (State.reset.setTable (reports 47 ++ [AlarmRec.restarted 0])) .phaseStep .part 0 = none)
    ∧ (∀ x ∈ reports 48, x.active = true ∧ Severity.minor.code ≤ x.severity.code)
    ∧ noticesQueued State.reset.mgmt < 3 ∧ noticesQueued { Mgmt.reset with transmit := queued 0 3 } < 4
    ∧ 4 ≤ noticesQueued { Mgmt.reset with transmit := queued 0 4 } := by decide +kernel
theorem witness_AlarmsStayDistinct :
    AlarmsDistinct { State.reset.setTable (reports 48) with pending := [.alarmAck 0 (.fields ⟨12, 2, 1, 48, 1⟩)] }
    ∧ onNext (step { State.reset.setTable (reports 48) with pending := [.alarmAck 0 (.fields ⟨12, 2, 1, 48, 1⟩)] })
      (fun t => t.alarms.table.length == 48) = true := by decide +kernel
theorem witness_RelaySetTakesModes :
    Ready (.relaySet 0 .badByte) State.reset
    ∧ Ready (.relaySet 0 (.fields ⟨[(.major, .follow), (.summary, .latch)]⟩)) State.reset
    ∧ (∃ x ∈ [(RelayName.major, RelayMode.follow), (.summary, .latch)], x.1 = .summary)
    ∧ Ready (.relaySet 0 (.fields ⟨[(.major, .follow), (.minor, .follow), (.major, .latch)]⟩)) State.reset
    ∧ (∀ x ∈ [(RelayName.major, RelayMode.follow), (.minor, .follow), (.major, .latch)], x.1 ≠ .summary)
    ∧ (([(RelayName.major, RelayMode.follow), (.minor, .follow), (.major, .latch)].filter (·.1 == .major)).getLast?.map
        (·.2)).getD State.reset.alarms.majorMode = .latch := by decide +kernel
theorem witness_PatternStageTakesPattern :
    Ready (.patternStage 0 (.fields ⟨255, [(0, 1), (2460, 1228800 - 2459)], some 1229, 2⟩)) State.reset
    ∧ (⟨255, [⟨0, 1⟩, ⟨2460, 1226341⟩], 1229⟩ : Pattern)
      = ⟨255, [(0, 1), (2460, 1228800 - 2459)].map fun w => ⟨w.1, w.2⟩, ((some 1229).map (min 16383)).getD
          State.reset.gates.active.guardTime⟩
    ∧ (2 : FrameCount) = BitVec.ofNat 32 2
    ∧ patternGood State.reset ⟨255, [⟨0, 1⟩, ⟨2460, 1226341⟩], 1229⟩ 2 = true
    ∧ patternGood State.reset ⟨255, [⟨0, 1⟩, ⟨2459, 1226341⟩], 1229⟩ 2 = false
    ∧ patternGood State.reset ⟨255, [⟨0, 1⟩, ⟨2460, 1226342⟩], 1229⟩ 2 = false
    ∧ patternGood State.reset ⟨255, [], 0⟩ 1 = false ∧ patternGood State.reset ⟨255, [], 0⟩ 2147483647 = true
    ∧ patternGood State.reset ⟨255, [], 0⟩ 2147483648 = false := by decide +kernel

theorem witness_StateChangesAreStamped :
    onNext (step { reading with pending := [.identityBlockCompletion 4 (some ⟨radioLast, 0x8F⟩)] })
      (fun t => t.slots[(4 : SlotId)].state != reading.slots[(4 : SlotId)].state) = true
    ∧ (∀ c ∈ ({ reading with pending := [.identityBlockCompletion 4 (some ⟨radioLast, 0x8F⟩)] }).pending.head?,
      c ≠ .restartTakeEffect)
    ∧ onNext (step { steered with pending := [.referenceSilenceExpiry .ext] }) (fun t => t.tb.quality == .holdover
        && t.tb.selected == none && (t.mgmt.transmit.map (·.frame.kind)).getLast? == some 0x43) = true := by decide +kernel
theorem witness_SettingsChangeOnlyByRequest :
    isSetting (.latchRawChange 11) = false
    ∧ onNext (exec (.latchRawChange 11) State.reset) (fun t => t.slots[(11 : SlotId)].latchHold.isSome) = true := by
  decide +kernel

end Sys2Proof.Tests
end

/-! # What the part's own acts leave of the Route Table

Most acts leave the whole table unchanged. The entries and the card reports follow the slots (R40, R69, R79, R82); what the
control processor sets beside them (R73, R76, R77) no act of the part itself changes. -/

namespace Sys2Proof.Machine

/-! ### Acts that leave the Route Table unchanged -/

section Unchanged
variable (n : SlotId) (s : State)

theorem AlarmStep.routes {s t : State} (h : AlarmStep s t) : t.routes = s.routes := by
  obtain ⟨_, _, _, _, _, _, rfl⟩ := h
  rfl
@[simp] theorem slotNotice_routes : (slotNotice n s).routes = s.routes := (slotNotice_step n s).alarm.routes
@[simp] theorem timingNotice_routes : (timingNotice s).routes = s.routes := (timingNotice_step s).alarm.routes
@[simp] theorem handSlotNotices_routes (l : List TxFrame) : (handSlotNotices l s).routes = s.routes := by
  obtain ⟨m, hm⟩ := handSlotNotices_frame l s
  rw [hm]

section
variable (code : AlarmCode) (src : AlarmSource) (sub : Nat) (v : Severity)
@[simp] theorem raiseAlarm_routes : (raiseAlarm code src sub v s).routes = s.routes :=
  (raiseAlarm_step code src sub v s).routes
@[simp] theorem raiseEvent_routes : (raiseEvent code src sub v s).routes = s.routes :=
  (raiseEvent_step code src sub v s).routes
@[simp] theorem clearAlarm_routes : (clearAlarm code src sub s).routes = s.routes :=
  (clearAlarm_step code src sub s).routes
end

@[simp] theorem raiseFault_routes (st : SlotState) : (raiseFault n st s).routes = s.routes := by
  cases st <;> simp [raiseFault]
@[simp] theorem clearFault_routes (old : SlotState) : (clearFault n old s).routes = s.routes := by
  cases old <;> simp [clearFault]
@[simp] theorem recordState_routes (st : SlotState) : (recordState n st s).routes = s.routes := rfl
@[simp] theorem gotoState_routes (st : SlotState) : (gotoState n st s).routes = s.routes := by
  simp [gotoState, apply_ite State.routes]
@[simp] theorem clearReportCodes_routes (l : List (Nat × Severity)) : (clearReportCodes n l s).routes = s.routes := by
  induction l generalizing s with
  | nil => rfl
  | cons x r ih => simp [clearReportCodes, ih]
@[simp] theorem laneDown_routes : (laneDown n s).routes = s.routes := rfl
@[simp] theorem leaveShedList_routes : (leaveShedList n s).routes = s.routes := rfl
@[simp] theorem leaveQueue_routes : (leaveQueue n s).routes = s.routes := rfl

@[simp] theorem startRead_routes (p : ReadPurpose) : (startRead n p s).routes = s.routes := rfl
@[simp] theorem abortRead_routes : (abortRead n s).routes = s.routes := by
  unfold abortRead
  dsimp only
  split <;> rfl
@[simp] theorem abortReadOf_routes (p : ReadPurpose) : (abortReadOf p n s).routes = s.routes := by
  simp [abortReadOf, apply_ite State.routes]
@[simp] theorem tryIdentify_routes : (tryIdentify n s).routes = s.routes := by
  simp [tryIdentify, apply_ite State.routes]
@[simp] theorem toDetected_routes : (toDetected n s).routes = s.routes := by simp [toDetected]

/-! #### Traffic -/

@[simp] theorem endTraffic_routes : (endTraffic n s).routes = s.routes := rfl
@[simp] theorem grants_routes (fuel : Nat) : (grants fuel s).routes = s.routes := by
  induction fuel generalizing s with
  | zero => rfl
  | succ fuel ih =>
    unfold grants
    split
    · split
      · exact ih _
      · rfl
    · rfl
@[simp] theorem runArbiter_routes : (runArbiter s).routes = s.routes := grants_routes s _

/-! #### Gates and delay measurement -/

@[simp] theorem dropTx_routes : (dropTx n s).routes = s.routes := by
  simp [dropTx, apply_ite State.routes]
@[simp] theorem gateFollow_routes : (gateFollow n s).routes = s.routes := by
  simp [gateFollow, apply_ite State.routes]
@[simp] theorem gatesFollow_routes : (gatesFollow s).routes = s.routes := eachSlot_same _ gateFollow_routes _ s
@[simp] theorem gateOff_routes : (gateOff n s).routes = s.routes := rfl
@[simp] theorem timingOff_routes : (timingOff n s).routes = s.routes := by
  simp [timingOff, apply_ite State.routes]
@[simp] theorem timingDrainStart_routes : (timingDrainStart n s).routes = s.routes := by
  simp [timingDrainStart, apply_ite State.routes]

/-! #### References and quality -/

@[simp] theorem setQuality_routes (q : Quality) : (setQuality q s).routes = s.routes := by
  simp [setQuality, apply_ite State.routes]
@[simp] theorem pendStep_routes : (pendStep s).routes = s.routes := rfl
@[simp] theorem toAcquiring_routes (o : QOrigin) : (toAcquiring o s).routes = s.routes := by simp [toAcquiring]
@[simp] theorem changeSelection_routes (choice : Option Ref) : (changeSelection choice s).routes = s.routes := by
  unfold changeSelection
  dsimp only
  split <;> simp
@[simp] theorem reselect_routes : (reselect s).routes = s.routes := by
  simp [reselect, apply_ite State.routes]
@[simp] theorem loseRef_routes (q : RefRec) : (loseRef q s).routes = s.routes := by simp [loseRef]
@[simp] theorem noticeTiming_routes (before : Timebase) : (noticeTiming before s).routes = s.routes := by
  simp [noticeTiming, apply_ite State.routes]
@[simp] theorem refCheck_routes : (refCheck n s).routes = s.routes := by
  unfold refCheck
  split
  · rfl
  · simp [apply_ite State.routes]

/-! #### Power -/

@[simp] theorem drainStart_routes (p : OffPurpose) (ms : Nat) : (drainStart n p ms s).routes = s.routes := by
  simp [drainStart]
@[simp] theorem enterPowering_routes : (enterPowering n s).routes = s.routes := by simp [enterPowering]
@[simp] theorem serveQueue_routes (l : List SlotId) : (serveQueue l s).routes = s.routes := by
  induction l generalizing s with
  | nil => rfl
  | cons n r ih => simp [serveQueue, apply_ite State.routes, ih]
@[simp] theorem restore_routes : (restore n s).routes = s.routes := by simp [restore]
@[simp] theorem budgetPass_routes : (budgetPass s).routes = s.routes := by
  unfold budgetPass
  split
  · rfl
  · split <;> simp [apply_ite State.routes]
@[simp] theorem startEpisode_routes : (startEpisode s).routes = s.routes := by simp [startEpisode]
@[simp] theorem clearEpisode_routes : (clearEpisode s).routes = s.routes := by
  simp [clearEpisode, apply_ite State.routes]
@[simp] theorem endEpisode_routes : (endEpisode s).routes = s.routes := by simp [endEpisode]
@[simp] theorem clearExceeded_routes : (clearExceeded s).routes = s.routes := by
  simp [clearExceeded, apply_ite State.routes]
@[simp] theorem setExceeded_routes : (setExceeded s).routes = s.routes := by
  simp [setExceeded, apply_ite State.routes]
@[simp] theorem settleRows_routes : (settleRows s).routes = s.routes := by
  simp [settleRows, apply_ite State.routes]

/-! #### The rebuild of the alarm table -/

theorem eachInput_same {α : Type} (g : State → α) {f : InputId → State → State} (hf : ∀ i s, g (f i s) = g s)
    (l : List InputId) (s : State) : g (eachInput f l s) = g s := by
  induction l generalizing s with
  | nil => rfl
  | cons i r ih => exact (ih (f i s)).trans (hf i s)
@[simp] theorem raiseReports_routes (l : List (Nat × Severity)) : (raiseReports n l s).routes = s.routes := by
  induction l generalizing s with
  | nil => rfl
  | cons x r ih => simp [raiseReports, ih]
@[simp] theorem rebuildInput_routes (i : InputId) : (rebuildInput i s).routes = s.routes := by
  simp [rebuildInput, apply_ite State.routes]
@[simp] theorem rebuildBudget_routes : (rebuildBudget s).routes = s.routes := by
  simp [rebuildBudget, apply_ite State.routes]
@[simp] theorem rebuildFault_routes : (rebuildFault n s).routes = s.routes := by simp [rebuildFault]
@[simp] theorem rebuildUnstable_routes : (rebuildUnstable n s).routes = s.routes := by
  simp [rebuildUnstable, apply_ite State.routes]
@[simp] theorem rebuildReports_routes : (rebuildReports n s).routes = s.routes := by simp [rebuildReports]
@[simp] theorem rebuildTiming_routes : (rebuildTiming s).routes = s.routes := by
  unfold rebuildTiming
  split <;> simp [apply_ite State.routes]
@[simp] theorem rebuildAlarms_routes : (rebuildAlarms s).routes = s.routes := by
  simp [rebuildAlarms, eachSlot_same State.routes rebuildReports_routes, eachSlot_same State.routes rebuildUnstable_routes,
    eachSlot_same State.routes rebuildFault_routes, eachInput_same State.routes (fun i s => rebuildInput_routes s i)]

end Unchanged

/-! ### The settings of the Route Table -/

/-- What the control processor sets in the Route Table beside its entries: groups, domains, matrix and lock (R73, R76, R77). -/
def Routes.settings (r : Routes) : Routes := { r with table := [], reports := .replicate 12 [] }

@[simp] theorem Routes.settings_setTable (r : Routes) (t : List Entry) : { r with table := t }.settings = r.settings := rfl
@[simp] theorem Routes.settings_setReports (r : Routes) (v : Vector (List (Nat × Severity)) 12) :
    { r with reports := v }.settings = r.settings := rfl
theorem Routes.settings_eq_iff {q r : Routes} : q.settings = r.settings ↔ q.groups = r.groups ∧ q.domains = r.domains
    ∧ q.join12 = r.join12 ∧ q.join13 = r.join13 ∧ q.join23 = r.join23 ∧ q.locked = r.locked := by
  simp [settings]

section Settings
variable (n : SlotId) (s : State)

@[simp] theorem releaseEntries_settings : (releaseEntries n s).routes.settings = s.routes.settings := by
  simp [releaseEntries]
@[simp] theorem reserve_settings (l : List Nat) : (reserve n l s).2.routes.settings = s.routes.settings := by
  simp [reserve, apply_ite Prod.snd, apply_ite State.routes, apply_ite Routes.settings]
@[simp] theorem clearReports_settings : (clearReports n s).routes.settings = s.routes.settings := by
  simp [clearReports]

@[simp] theorem powerOffCompletion_settings : (powerOffCompletion n s).routes.settings = s.routes.settings := by
  simp [powerOffCompletion, apply_ite State.routes]
@[simp] theorem startOffWait_settings : (startOffWait n s).routes.settings = s.routes.settings := by
  simp [startOffWait, apply_ite State.routes, apply_ite Routes.settings]
@[simp] theorem teardown_settings (dest : SlotState) : (teardown n dest s).routes.settings = s.routes.settings := by
  simp [teardown, teardownShares, apply_ite State.routes]
@[simp] theorem teardownOff_settings (p : OffPurpose) : (teardownOff n p s).routes.settings = s.routes.settings := by
  simp [teardownOff]
@[simp] theorem shedOrder_settings : (shedOrder n s).routes.settings = s.routes.settings := by
  unfold shedOrder
  dsimp only
  split <;> simp
@[simp] theorem evaluate_settings : (evaluate s).routes.settings = s.routes.settings := by
  simp [evaluate, apply_ite State.routes, apply_ite Routes.settings,
    eachSlot_same (fun s => s.routes.settings) shedOrder_settings]
@[simp] theorem settle_settings : (settle s).routes.settings = s.routes.settings := by
  simp [settle, apply_ite State.routes, apply_ite Routes.settings]

/-! #### A RESTART -/

@[simp] theorem restartReserve_settings : (restartReserve n s).routes.settings = s.routes.settings := by
  unfold restartReserve
  split <;> simp
@[simp] theorem restartRoutes_settings : (restartRoutes s).routes.settings = s.routes.settings := by
  rw [restartRoutes, eachSlot_same (fun s => s.routes.settings) restartReserve_settings]
  simp
@[simp] theorem restartGates_routes : (restartGates s).routes = s.routes := by
  rw [restartGates, gatesFollow_routes, eachSlot_same State.routes]
  simp [apply_ite State.routes]
@[simp] theorem restartTimings_routes : (restartTimings s).routes = s.routes := by
  rw [restartTimings, eachSlot_same State.routes]
  simp
@[simp] theorem restartBlocks_settings : (restartBlocks s).routes.settings = s.routes.settings := by
  simp [restartBlocks, restartBudget, restartSlots, restartMgmt, eachSlot_same State.routes laneDown_routes,
    eachSlot_same State.routes abortRead_routes]
@[simp] theorem restartCompletion_settings (before : State) :
    (restartCompletion before n s).routes.settings = s.routes.settings := by
  simp [restartCompletion, apply_ite State.routes, apply_ite Routes.settings]
@[simp] theorem startRecovery_routes : (startRecovery n s).routes = s.routes := by
  simp [startRecovery, apply_ite State.routes]
@[simp] theorem restartActs_settings (before : State) : (restartActs before s).routes.settings = s.routes.settings := by
  simp [restartActs, eachSlot_same State.routes tryIdentify_routes, eachSlot_same State.routes startRecovery_routes,
    eachSlot_same (fun s => s.routes.settings) (restartCompletion_settings (before := before))]
/-- A RESTART keeps the groups, the domain map, the matrix and the lock (R77, R82). -/
theorem restartPart_settings : (restartPart s).routes.settings = s.routes.settings := by
  simp [restartPart, apply_ite State.routes]

end Settings

end Sys2Proof.Machine

/-! # Routes: ROUTE_SET and ROUTE_CLEAR (R70, R71) -/

namespace Sys2Proof.Machine

/-! ### The table by address -/

section
variable (t : List Entry) (b : Nat)

@[simp] theorem findEntry_cons (x : Entry) :
    findEntry (x :: t) b = if x.address = b then some x else findEntry t b := by
  by_cases h : x.address = b <;> simp [findEntry, h]
/-- A placed entry stands at its address, and every other address is as before. The table need not be in order. -/
theorem findEntry_putEntry (e : Entry) :
    findEntry (putEntry e t) b = if b = e.address then some e else findEntry t b := by
  induction t with
  | nil => simp [putEntry, eq_comm]
  | cons x r ih =>
    unfold putEntry
    split
    · simp [eq_comm]
    · split
      · rename_i hx
        by_cases hb : b = e.address <;> simp [← hx, hb, eq_comm]
      · rename_i hx
        rw [findEntry_cons, ih, findEntry_cons]
        by_cases hb : b = e.address
        · simp [hb, Ne.symm hx]
        · simp [hb]
/-- An address is free after its entry is dropped, and every other address is as before. -/
theorem findEntry_dropEntry (a : Nat) :
    findEntry (dropEntry t a) b = if b = a then none else findEntry t b := by
  unfold findEntry dropEntry
  rw [List.find?_filter]
  split
  · simp_all
  · rename_i hb
    congr 1
    funext e
    by_cases he : e.address = b <;> simp [he, hb]

end

theorem isCardAddress_of_le {a : Nat} (h1 : 1 ≤ a) (h2 : a ≤ 254) : isCardAddress a = true := by
  simp [isCardAddress, h1, h2]
theorem isCardAddress_of_out {a : Nat} (h : a = 0 ∨ 254 < a) : isCardAddress a = false := by
  simp only [isCardAddress, Bool.and_eq_false_iff, decide_eq_false_iff_not]
  omega

/-! ### ROUTE_SET -/

/-- At a vacant address the entry is installed where the table has a place. -/
theorem routeSetAnswer_vacant {t : List Entry} {a : Nat} (h : findEntry t a = none) (target : Target)
    (cls : PerClass Bool) : routeSetAnswer t a target cls
      = if 96 ≤ t.length then .error .tableFull else .ok ⟨a, target, .provisioned, cls, false⟩ := by
  simp only [routeSetAnswer, h]
  rfl
/-- At an occupied address a provisioned entry that serves no card is replaced, any other takes the classes of a request
for its own target, and another target conflicts. -/
theorem routeSetAnswer_occupied {t : List Entry} {a : Nat} {e : Entry} (h : findEntry t a = some e) (target : Target)
    (cls : PerClass Bool) : routeSetAnswer t a target cls
      = if e.origin = .provisioned ∧ e.serving = false then .ok ⟨a, target, .provisioned, cls, false⟩
        else if e.target = target then .ok ⟨a, target, .provisioned, cls, true⟩ else .error .conflict := by
  simp only [routeSetAnswer, h]
  match ho : e.origin, hs : e.serving with
  | .provisioned, false => simp
  | .provisioned, true => simp
  | .learned, _ => simp

/-- What a ROUTE_SET makes of its answer: the entry placed and an ACCEPTED reply, or a REFUSED one. -/
def routeSetResult (tag : Byte) (s : State) : Except Reason Entry → State
  | .ok e => accepted 14 tag (entryBytes s e) (s.setEntries (putEntry e s.routes.table))
  | .error r => refused 14 tag r s

section
variable {tag : Byte} {f : RouteFields} {s : State}

theorem exec_routeSet_fields (hr : Ready (.routeSet tag (.fields f)) s) :
    exec (.routeSet tag (.fields f)) s = .next (routeSet tag f (headTaken s)) :=
  runRequest_fields 14 tag (routeSet tag) hr f
theorem exec_routeSet_badField (hr : Ready (.routeSet tag (.fields f)) s)
    (h : f.address = 0 ∨ 254 < f.address ∨ targetOf f.kind f.target = none) :
    exec (.routeSet tag (.fields f)) s = .next (refused 14 tag .badField s) := by
  rw [exec_routeSet_fields hr, routeSet]
  rcases or_assoc.2 h with ha | ht
  · simp only [isCardAddress_of_out ha]
  · cases isCardAddress f.address <;> simp only [ht]
/-- With its fields in range a ROUTE_SET carries out its answer. -/
theorem exec_routeSet_answer (hr : Ready (.routeSet tag (.fields f)) s) (h1 : 1 ≤ f.address) (h2 : f.address ≤ 254)
    {target : Target} (ht : targetOf f.kind f.target = some target) :
    exec (.routeSet tag (.fields f)) s
      = .next (routeSetResult tag s
          (routeSetAnswer s.routes.table f.address target (f.classes.getD allPermitted))) := by
  simp only [exec_routeSet_fields hr, routeSet, isCardAddress_of_le h1 h2, ht]
  cases routeSetAnswer s.routes.table f.address target (f.classes.getD allPermitted) <;> rfl

end

/-! ### ROUTE_CLEAR -/

section
variable {tag : Byte} {a : Nat} {s : State}

theorem exec_routeClear_fields (hr : Ready (.routeClear tag (.fields a)) s) :
    exec (.routeClear tag (.fields a)) s = .next (routeClear tag a (headTaken s)) :=
  runRequest_fields 15 tag (routeClear tag) hr a
theorem exec_routeClear_badField (hr : Ready (.routeClear tag (.fields a)) s) (h : a = 0 ∨ 254 < a) :
    exec (.routeClear tag (.fields a)) s = .next (refused 15 tag .badField s) := by
  simp [exec_routeClear_fields hr, routeClear, isCardAddress_of_out h]
theorem exec_routeClear_vacant (hr : Ready (.routeClear tag (.fields a)) s) (h1 : 1 ≤ a) (h2 : a ≤ 254)
    (h : findEntry s.routes.table a = none) :
    exec (.routeClear tag (.fields a)) s = .next (refused 15 tag .notFound s) := by
  simp [exec_routeClear_fields hr, routeClear, isCardAddress_of_le h1 h2, h]
/-- A learned entry stays, a provisioned one that serves its card becomes the learned one, any other goes. -/
theorem exec_routeClear_occupied (hr : Ready (.routeClear tag (.fields a)) s) (h1 : 1 ≤ a) (h2 : a ≤ 254) {e : Entry}
    (h : findEntry s.routes.table a = some e) :
    exec (.routeClear tag (.fields a)) s = .next (
      if e.origin = .learned then refused 15 tag .wrongState s
      else if e.serving = true then
        accepted 15 tag [] (s.setEntries (putEntry ⟨e.address, e.target, .learned, allPermitted, false⟩ s.routes.table))
      else accepted 15 tag [] (s.setEntries (dropEntry s.routes.table a))) := by
  simp only [exec_routeClear_fields hr, routeClear, isCardAddress_of_le h1 h2, h, if_true]
  match ho : e.origin, hs : e.serving with
  | .learned, _ => rfl
  | .provisioned, true => rfl
  | .provisioned, false => rfl

end

/-- Settles O34: each clause is the law of ROUTE_SET or ROUTE_CLEAR for what stands at the address. -/
theorem routeRequestsActByEntry : Obligations.RouteRequestsActByEntry := by
  intro tag f target cls e a b s
  refine ⟨runRequest_badByte 14 tag (routeSet tag), exec_routeSet_badField, fun hr h1 h2 ht hc => ?_,
    exec_routeClear_badField, fun hr h1 h2 => ⟨exec_routeClear_vacant hr h1 h2, exec_routeClear_occupied hr h1 h2⟩,
    findEntry_putEntry _ b e, findEntry_dropEntry _ b a⟩
  have hx := exec_routeSet_answer hr h1 h2 ht
  rw [show f.classes.getD allPermitted = cls from hc] at hx
  constructor
  · intro hv
    rw [hx, routeSetAnswer_vacant hv, apply_ite (routeSetResult tag s)]
    rfl
  · intro ho
    rw [hx, routeSetAnswer_occupied ho, apply_ite (routeSetResult tag s), apply_ite (routeSetResult tag s)]
    rfl

end Sys2Proof.Machine

/-! # Operator domains: the domain lock (R77) -/

namespace Sys2Proof.Machine

section
variable {tag : Byte} {f : DomainFields} {s : State}

/-- DOMAIN_SET under the lock is a refusal, with a reason by its fields (R76). -/
theorem domainSet_locked (h : s.routes.locked = true) :
    domainSet tag f s = refuse 18 tag (if domainFieldsGood f then .locked else .badField) s := by
  cases hf : domainFieldsGood f <;> simp [domainSet, hf, h]
theorem exec_domainSet_fields (hr : Ready (.domainSet tag (.fields f)) s) :
    exec (.domainSet tag (.fields f)) s = .next (domainSet tag f (headTaken s)) :=
  runRequest_fields 18 tag (domainSet tag) hr f
theorem exec_domainSet_locked (hr : Ready (.domainSet tag (.fields f)) s) (h : s.routes.locked = true) :
    exec (.domainSet tag (.fields f)) s
      = .next (refused 18 tag (if domainFieldsGood f then .locked else .badField) s) := by
  rw [exec_domainSet_fields hr]
  exact congrArg _ (domainSet_locked (s := headTaken s) h)
/-- Under the lock no DOMAIN_SET changes the Route Table, also one that has to wait. -/
theorem exec_domainSet_locked_routes (h : s.routes.locked = true) :
    ∃ t : State, exec (.domainSet tag (.fields f)) s = .next t ∧ t.routes = s.routes := by
  by_cases hr : Ready (.domainSet tag (.fields f)) s
  · exact ⟨_, exec_domainSet_locked hr h, rfl⟩
  · exact ⟨s, runRequest_blocked 18 tag (domainSet tag) (.fields f) hr, rfl⟩

theorem exec_domainLock_fields (hr : Ready (.domainLock tag (.fields ())) s) :
    exec (.domainLock tag (.fields ())) s
      = .next (accepted 19 tag [] { s with routes := { s.routes with locked := true } }) :=
  runRequest_fields 19 tag (fun _ s => accept 19 tag [] (s.setRoutes { s.routes with locked := true })) hr ()
/-- Setting a lock that is LOCKED already changes nothing. -/
theorem lock_of_locked (h : s.routes.locked = true) : { s with routes := { s.routes with locked := true } } = s := by
  rw [← h]

end

/-- A full reset leaves the lock UNLOCKED. -/
theorem exec_fullReset_unlocks (cause : ResetCause) (strap : LineRate) (s : State) :
    ∃ t : State, exec (.fullReset cause strap) s = .next t ∧ t.routes.locked = false :=
  ⟨_, rfl, by rw [raiseEvent_routes]; rfl⟩
/-- RESTART_TAKE_EFFECT keeps what the control processor has set in the Route Table, whether a RESTART waits or not. -/
theorem exec_restartTakeEffect_settings (s : State) :
    ∃ t : State, exec .restartTakeEffect s = .next t ∧ t.routes.settings = s.routes.settings := by
  refine ⟨_, rfl, ?_⟩
  split
  · exact restartPart_settings s
  · rfl

/-- Settles O37: the lock by the laws of the two requests and of the full reset, and the RESTART by the settings that every act
in it keeps. -/
theorem domainLockFreezesDomains : Obligations.DomainLockFreezesDomains := by
  intro tag f cause strap s
  refine ⟨fun hr _ => exec_domainLock_fields hr, fun hr hl => ?_, fun hr hl hf => ?_, exec_domainSet_locked_routes,
    exec_fullReset_unlocks cause strap s, ?_⟩
  · rw [exec_domainLock_fields hr, lock_of_locked hl]
  · rw [exec_domainSet_locked hr hl, if_pos hf]
  · obtain ⟨t, ht, hk⟩ := exec_restartTakeEffect_settings s
    obtain ⟨-, hd, h12, h13, h23, hl⟩ := Routes.settings_eq_iff.1 hk
    exact ⟨t, ht, hl, hd, h12, h13, h23⟩

end Sys2Proof.Machine

/-! # Packets and credit: QUEUE_SET (R101) -/

namespace Sys2Proof.Machine

/-! ### Slot numbers, clamps, and an operation on each slot in turn -/

theorem slotOf_of_gt {k : Nat} (h : 12 < k) : slotOf k = none := dif_neg (by omega)

theorem clampNat_eq_max_min {lo hi : Nat} (h : lo ≤ hi) : clampNat lo hi = fun x => max lo (min hi x) := by
  funext x
  unfold clampNat
  split
  · omega
  · split <;> omega

theorem allSlots_nodup : allSlots.Nodup := by decide
/-- Where the operation on a slot changes the data `g` of that slot only, each slot of the list ends with its data changed
once, and every other slot with its data as they were. -/
theorem eachSlot_local {α : Type} {g : State → SlotId → α} {h : α → α} {f : SlotId → State → State}
    (hf : ∀ n m s, g (f n s) m = if m = n then h (g s m) else g s m) :
    ∀ (l : List SlotId) (s : State) (m : SlotId), l.Nodup →
      g (eachSlot f l s) m = if m ∈ l then h (g s m) else g s m := by
  intro l
  induction l with
  | nil => intro s m _; simp
  | cons n r ih =>
    intro s m hl
    obtain ⟨hn, hr⟩ := List.nodup_cons.1 hl
    rw [eachSlot_cons, ih (f n s) m hr, hf n m s]
    by_cases hm : m = n
    · simp [hm, hn]
    · simp [hm]

/-! ### What the grant arbiter leaves unchanged -/

/-- The credit limits of a slot. -/
def creditLimits (c : PerClass Credit) : PerClass Nat := ⟨c.t.limit, c.c.limit, c.s.limit, c.b.limit⟩
theorem creditLimits_eq_iff {c : PerClass Credit} {x : PerClass Nat} : creditLimits c = x ↔
    c.t.limit = x.t ∧ c.c.limit = x.c ∧ c.s.limit = x.s ∧ c.b.limit = x.b := by
  cases x
  simp [creditLimits]
/-- The counts of a class are written without a change of its limit. -/
theorem creditLimits_setClass (c : PerClass Credit) (k : TrafficClass) (o u : Nat) :
    creditLimits (setClass c k ⟨(perClass c k).limit, o, u⟩) = creditLimits c := by
  cases k <;> rfl

/-- Only grants were made between two states: free blocks became credit, and no credit limit changed (R86). -/
def GrantStep (s t : State) : Prop :=
  ∃ (free : Nat) (credits : Vector (PerClass Credit) 12) (last : PerClass SlotId),
    t = { s with buffer := { s.buffer with free := free, credits := credits, lastServed := last } }
      ∧ ∀ m : SlotId, creditLimits credits[m] = creditLimits s.buffer.credits[m]

theorem GrantStep.refl (s : State) : GrantStep s s := ⟨_, _, _, rfl, fun _ => rfl⟩
theorem GrantStep.trans {s t u : State} (h : GrantStep s t) (k : GrantStep t u) : GrantStep s u := by
  obtain ⟨_, _, _, rfl, h⟩ := h
  obtain ⟨_, _, _, rfl, k⟩ := k
  exact ⟨_, _, _, rfl, fun m => (k m).trans (h m)⟩
theorem grant_step (k : TrafficClass) (n : SlotId) (s : State) : GrantStep s (grant k n s) := by
  refine ⟨_, _, _, rfl, fun m => ?_⟩
  by_cases hm : n = m
  · subst hm
    simp [creditLimits_setClass]
  · simp [Fin.val_inj, hm]
theorem grants_step (fuel : Nat) (s : State) : GrantStep s (grants fuel s) := by
  induction fuel generalizing s with
  | zero => exact .refl s
  | succ fuel ih =>
    unfold grants
    split
    · split
      · exact (grant_step _ _ s).trans (ih _)
      · exact .refl s
    · exact .refl s
theorem runArbiter_step (s : State) : GrantStep s (runArbiter s) := grants_step s.buffer.free s

theorem GrantStep.creditLimits {s t : State} (h : GrantStep s t) (m : SlotId) :
    creditLimits t.buffer.credits[m] = creditLimits s.buffer.credits[m] := by
  obtain ⟨_, _, _, rfl, h⟩ := h
  exact h m
theorem GrantStep.kept {s t : State} (h : GrantStep s t) : t.slots = s.slots ∧ t.mgmt = s.mgmt
    ∧ t.buffer.stored = s.buffer.stored ∧ t.buffer.counters = s.buffer.counters := by
  obtain ⟨_, _, _, rfl, -⟩ := h
  exact ⟨rfl, rfl, rfl, rfl⟩
theorem GrantStep.ports {s t : State} (h : GrantStep s t) : t.buffer.ports = s.buffer.ports := by
  obtain ⟨_, _, _, rfl, -⟩ := h
  rfl

/-! ### The settings of a slot -/

/-- What QUEUE_SET sets, and with it what its reply shows: the credit limits of a slot and its port. -/
def queueSettings (s : State) (n : SlotId) : PerClass Nat × Port :=
  (creditLimits s.buffer.credits[n], s.buffer.ports[n])
/-- The credit limits after QUEUE_SET. -/
def takeLimits (f : PerClass (Option Nat)) (x : PerClass Nat) : PerClass Nat :=
  ⟨(f.t.map (min 64)).getD x.t, (f.c.map (min 64)).getD x.c, (f.s.map (min 64)).getD x.s, (f.b.map (min 64)).getD x.b⟩
/-- The settings after QUEUE_SET. -/
def takeQueueSettings (f : QueueFields) (x : PerClass Nat × Port) : PerClass Nat × Port :=
  (takeLimits f.credit x.1, takePort f x.2)

theorem creditLimits_takeCreditLimits (f : PerClass (Option Nat)) (c : PerClass Credit) :
    creditLimits (takeCreditLimits f c) = takeLimits f (creditLimits c) := rfl
theorem takePort_eq (f : QueueFields) (p : Port) : takePort f p = { p with
    limits := ⟨(f.queue.t.map fun x => max 1 (min 256 x)).getD p.limits.t,
      (f.queue.c.map fun x => max 1 (min 256 x)).getD p.limits.c,
      (f.queue.s.map fun x => max 1 (min 256 x)).getD p.limits.s,
      (f.queue.b.map fun x => max 1 (min 256 x)).getD p.limits.b⟩
    sQuantum := (f.sQuantum.map fun x => max 1 (min 24 x)).getD p.sQuantum
    bQuantum := (f.bQuantum.map fun x => max 1 (min 24 x)).getD p.bQuantum } := by
  simp only [takePort, takeQueueLimit, clampNat_eq_max_min (show 1 ≤ 256 by decide),
    clampNat_eq_max_min (show 1 ≤ 24 by decide)]

theorem GrantStep.queueSettings {s t : State} (h : GrantStep s t) (m : SlotId) :
    queueSettings t m = queueSettings s m :=
  Prod.ext (h.creditLimits m) (congrArg (·[m]) h.ports)
/-- The bytes that show the settings of a slot. -/
def settingsBytes (x : PerClass Nat × Port) : List Byte :=
  be8 x.1.t ++ be8 x.1.c ++ be8 x.1.s ++ be8 x.1.b ++ be16 x.2.limits.t ++ be16 x.2.limits.c ++ be16 x.2.limits.s
    ++ be16 x.2.limits.b ++ be8 x.2.sQuantum ++ be8 x.2.bQuantum
/-- The reply shows nothing but the settings of its slot. -/
theorem queueSetReply_eq (s : State) (m : SlotId) : queueSetReply s m = settingsBytes (queueSettings s m) := rfl

/-! ### QUEUE_SET on a slot and on each slot that it names -/

section
variable (f : QueueFields) (n m : SlotId) (s : State)

@[simp] theorem queueSetSlot_slots : (queueSetSlot f n s).slots = s.slots := rfl
@[simp] theorem queueSetSlot_mgmt : (queueSetSlot f n s).mgmt = s.mgmt := rfl
@[simp] theorem queueSetSlot_stored : (queueSetSlot f n s).buffer.stored = s.buffer.stored := rfl
@[simp] theorem queueSetSlot_counters : (queueSetSlot f n s).buffer.counters = s.buffer.counters := rfl
theorem queueSetSlot_settings : queueSettings (queueSetSlot f n s) m
    = if m = n then takeQueueSettings f (queueSettings s m) else queueSettings s m := by
  by_cases hm : m = n
  · subst hm
    simp [queueSettings, queueSetSlot, takeQueueSettings, creditLimits_takeCreditLimits]
  · simp [queueSettings, queueSetSlot, Fin.val_inj, hm, Ne.symm hm]

/-- The slots that a QUEUE_SET names, with slot byte 0 all twelve and otherwise the slot `n` of its byte. -/
def namedSlots : List SlotId := if f.slot = 0 then allSlots else [n]
theorem mem_namedSlots : m ∈ namedSlots f n ↔ f.slot = 0 ∨ m = n := by
  unfold namedSlots
  split <;> simp [*, mem_allSlots]
theorem namedSlots_nodup : (namedSlots f n).Nodup := by
  unfold namedSlots
  split
  · exact allSlots_nodup
  · exact List.nodup_singleton n

/-- QUEUE_SET on every slot that it names, before its reply. -/
def queueSetNamed : State := eachSlot (queueSetSlot f) (namedSlots f n) s

@[simp] theorem queueSetNamed_slots : (queueSetNamed f n s).slots = s.slots :=
  eachSlot_same State.slots (queueSetSlot_slots f) _ s
@[simp] theorem queueSetNamed_mgmt : (queueSetNamed f n s).mgmt = s.mgmt :=
  eachSlot_same State.mgmt (queueSetSlot_mgmt f) _ s
@[simp] theorem queueSetNamed_stored : (queueSetNamed f n s).buffer.stored = s.buffer.stored :=
  eachSlot_same (fun s => s.buffer.stored) (queueSetSlot_stored f) _ s
@[simp] theorem queueSetNamed_counters : (queueSetNamed f n s).buffer.counters = s.buffer.counters :=
  eachSlot_same (fun s => s.buffer.counters) (queueSetSlot_counters f) _ s
theorem queueSetNamed_settings : queueSettings (queueSetNamed f n s) m
    = if f.slot = 0 ∨ m = n then takeQueueSettings f (queueSettings s m) else queueSettings s m := by
  simp only [← mem_namedSlots]
  exact eachSlot_local (queueSetSlot_settings f) _ s m (namedSlots_nodup f n)

end

/-! ### QUEUE_SET -/

section
variable {tag : Byte} {f : QueueFields} {s : State}

theorem exec_queueSet_fields (hr : Ready (.queueSet tag (.fields f)) s) :
    exec (.queueSet tag (.fields f)) s = .next (queueSet tag f (headTaken s)) :=
  runRequest_fields 20 tag (queueSet tag) hr f
theorem exec_queueSet_badField (hr : Ready (.queueSet tag (.fields f)) s) (h : 12 < f.slot) :
    exec (.queueSet tag (.fields f)) s = .next (refused 20 tag .badField s) := by
  rw [exec_queueSet_fields hr, queueSet, if_neg (by omega), withSlot_none (slotOf_of_gt h)]

/-- A QUEUE_SET in range sets the slots that it names, answers, and runs the arbiter. -/
theorem queueSet_named {n : SlotId} (h : f.slot = 0 ∨ f.slot = slotNumber n) (s : State) :
    queueSet tag f s = runArbiter (accept 20 tag
      (queueSetReply (queueSetNamed f n s) (if f.slot = 0 then 0 else n)) (queueSetNamed f n s)) := by
  by_cases h0 : f.slot = 0
  · simp only [queueSet, queueSetNamed, namedSlots, if_pos h0]
  · have hn : slotOf f.slot = some n := by rw [h.resolve_left h0, slotOf_slotNumber]
    simp only [queueSet, queueSetNamed, namedSlots, if_neg h0, withSlot_some hn, eachSlot_cons, eachSlot_nil]

end

/-- Settles O39: the slots named are set one by one, and the grants that follow change no limit, port or reply. -/
theorem queueSetTakesLimits : Obligations.QueueSetTakesLimits := by
  intro tag f n m s hr
  refine ⟨exec_queueSet_badField hr, fun hslot => ?_⟩
  rw [exec_queueSet_fields hr, queueSet_named hslot]
  generalize hu : queueSetNamed f n (headTaken s) = u
  generalize ha : accept 20 tag (queueSetReply u (if f.slot = 0 then 0 else n)) u = a
  have hgrant := runArbiter_step a
  have hset (i : SlotId) : queueSettings (runArbiter a) i = queueSettings u i := by
    rw [hgrant.queueSettings, ← ha]
    rfl
  have hnamed : queueSettings u m
      = if f.slot = 0 ∨ m = n then takeQueueSettings f (queueSettings s m) else queueSettings s m := by
    rw [← hu]
    exact queueSetNamed_settings f n m (headTaken s)
  obtain ⟨hslots, hmgmt, hstored, hcounters⟩ := hgrant.kept
  refine ⟨_, rfl, fun hm => ?_, fun h0 hm => ?_, ?_, ?_⟩
  · obtain ⟨hc, hp⟩ := Prod.ext_iff.1 ((hset m).trans (hnamed.trans (if_pos hm)))
    obtain ⟨ht, hcc, hs, hb⟩ := creditLimits_eq_iff.1 hc
    exact ⟨ht, hcc, hs, hb, hp.trans (takePort_eq f _)⟩
  · obtain ⟨hc, hp⟩ := Prod.ext_iff.1 ((hset m).trans (hnamed.trans (if_neg (by simp [h0, hm]))))
    exact ⟨hp, creditLimits_eq_iff.1 hc⟩
  · rw [queueSetReply_eq, hset, ← queueSetReply_eq, Answered, hmgmt, ← ha]
    simp [← hu, accept_eq, be8, byteOf]
  · rw [hslots, hstored, hcounters, ← ha, ← hu]
    simp [accept_eq]

end Sys2Proof.Machine
